-- ==== Sys2Proof/Word.lean ====
section
/-! DEFINITION. The word types of the Ilbaven 4C: bytes of the serial link, 32-bit sequence numbers and
turns, 48-bit Timebase counts, and the numbers of its axes, lines, inputs and routes. -/

namespace Sys2Proof

/-- One byte of the serial link (spec/10_message_formats.md, R192). -/
abbrev Byte := BitVec 8

/-- A 16-bit frame CRC (spec/09_host_link_and_sessions.md, R169). -/
abbrev Word16 := BitVec 16

/-- A 32-bit number that wraps: a sequence number (R137), a ROTARY turn (R8), a wrapping counter. -/
abbrev Word32 := BitVec 32

/-- A Timebase count or timestamp: ticks of 10 ns, modulo 2^48 (R117, R118). -/
abbrev Ticks := BitVec 48

/-- AX0 to AX3 (spec/00_scope.md, 5.2). -/
abbrev AxisId := Fin 4

/-- OUT0 to OUT7. -/
abbrev LineId := Fin 8

/-- TRIG0 to TRIG5. -/
abbrev TriggerId := Fin 6

/-- Routes 0 to 15. -/
abbrev RouteId := Fin 16

end Sys2Proof
end

