-- ==== Sys2Proof/Syntax.lean ====
section
/-! DEFINITION. The commands of the part: one constructor for each row of spec/opcode_table.json.
A row is one whole, indivisible step of the part (spec/95_what_each_step_holds.md): a physical event on a
line or a timer, or the dispatcher's taking of a request that waits in the intake. The operands of an event
are what the outside world decides: the character received and, where the spec lets two independent
deliveries be taken in either order, that order. What the lines do stands in the state. A request command has no parameters of its own: they are
the bytes of the oldest waiting request. -/

namespace Sys2Proof

/-- The level of a logic line. -/
inductive Level where
  | low
  | high
  deriving DecidableEq, Repr

/-- The other level. -/
def Level.flip : Level → Level
  | .low => .high
  | .high => .low

/-- Which filtered lines of an axis a DECODER_STATE_CHANGE is about: the pair of A and B, or the index line. -/
inductive DecoderLines where
  | pair
  | index
  deriving DecidableEq, Repr

/-- The commands: the rows of the operation and event table. -/
inductive Instr where
  /-- COLD_RESET (R190): power-on, or NRST goes low. -/
  | coldReset
  /-- COLD_RESET_COMPLETE (R190): NRST is high; the blocks sample their input lines. -/
  | coldResetComplete
  /-- WARM_RESET_COMPLETE (R189): the warm reset ends; the blocks sample their input lines. -/
  | warmResetComplete
  /-- TIMEBASE_WRAP (R118): time runs on until the count passes from 2^48−1 to 0. -/
  | timebaseWrap
  /-- COUNT_EVENT (R3, R5): the filtered pair of axis n changes so that it gives a count. `takes` says how many of
  its steps on waiting marks the Route Table makes after each firing entry, a step being the taking of one mark or
  the issue of one route's action on it (R50, notes/assumptions/4.md); past the end of the list it makes all of
  them at once. -/
  | countEvent (n : AxisId) (takes : List Nat)
  /-- QUADRATURE_ERROR (R4): both filtered levels of axis n change together. -/
  | quadratureError (n : AxisId)
  /-- INDEX_ARRIVAL (R13): the filtered index line of axis n rises. -/
  | indexArrival (n : AxisId)
  /-- LEAD_END (R79) on an output line. -/
  | leadEnd (l : LineId)
  /-- PULSE_END (R79 to R81) on an output line. -/
  | pulseEnd (l : LineId)
  /-- GAP_END (R80) on an output line. -/
  | gapEnd (l : LineId)
  /-- TRIGGER_EDGE (R98): the filtered level of input k changes. `before` are the axes that take an
  accepted edge before the Route Table does, `after` those that take it after, each in the order given;
  an axis in neither list takes it last. -/
  | triggerEdge (k : TriggerId) (before after : List AxisId)
  /-- TRIGGER_REJECTED_PULSE (R98): the line of input k returns within the filter time. -/
  | triggerRejectedPulse (k : TriggerId)
  /-- HOLDOFF_EXPIRY (R100) of input k. -/
  | holdoffExpiry (k : TriggerId)
  /-- SYNC_EDGE (R122): the SYNC filtered level changes. -/
  | syncEdge
  /-- ACK_TIMEOUT (R153). -/
  | ackTimeout
  /-- KEEPALIVE_EXPIRY (R182). -/
  | keepaliveExpiry
  /-- FRAME_RECEIVED (R168, R169, R171): the second CRC byte of a frame is received. -/
  | frameReceived (crcLow : Byte)
  /-- LENGTH_ERROR (R168): a length byte outside 4–250 is received. -/
  | lengthError (length : Byte)
  /-- CHARACTER_ERROR (R170): a character with a low stop bit. -/
  | characterError
  /-- INTER_BYTE_GAP (R170): more than 2 ms pass inside a frame. -/
  | interByteGap
  /-- TX_TAKE_FRAME (R177). -/
  | txTakeFrame
  /-- TX_FRAME_COMPLETE (R177). -/
  | txFrameComplete
  /-- IDENTIFY (R187). -/
  | identify
  /-- PING (R187). -/
  | ping
  /-- ATTACH (R178, R179). -/
  | attach
  /-- DETACH (R181). -/
  | detach
  /-- LINK_CONFIG (R167). -/
  | linkConfig
  /-- LINK_STATS (R188). -/
  | linkStats
  /-- RESTART (R189). -/
  | restart
  /-- AXIS_CONFIG (R24). -/
  | axisConfig
  /-- AXIS_READ (R25). -/
  | axisRead
  /-- AXIS_SET_POSITION (R23). -/
  | axisSetPosition
  /-- HOME (R19). -/
  | home
  /-- HOME_CANCEL (R22). -/
  | homeCancel
  /-- STAGE_ADD (R34). -/
  | stageAdd
  /-- STAGE_REMOVE (R35). -/
  | stageRemove
  /-- STAGE_CLEAR (R36). -/
  | stageClear
  /-- STAGE_COPY (R37). -/
  | stageCopy
  /-- SCHED_CONFIG (R72). -/
  | schedConfig
  /-- COMMIT (R64). -/
  | commit
  /-- COMMIT_CANCEL (R71). -/
  | commitCancel
  /-- SCHED_START (R56). -/
  | schedStart
  /-- SCHED_STOP (R58). -/
  | schedStop
  /-- SCHED_READ (R73). -/
  | schedRead
  /-- ENTRY_READ (R39). -/
  | entryRead
  /-- OUTPUT_CONFIG (R91). -/
  | outputConfig
  /-- OUTPUT_ACTION (R89). -/
  | outputAction
  /-- OUTPUT_STOP (R90). -/
  | outputStop
  /-- OUTPUT_READ (R92). -/
  | outputRead
  /-- OUTPUT_SAFE (R93). -/
  | outputSafe
  /-- OUTPUT_RELEASE (R95). -/
  | outputRelease
  /-- TRIGGER_CONFIG (R103). -/
  | triggerConfig
  /-- TRIGGER_READ (R104). -/
  | triggerRead
  /-- ROUTE_SET (R112). -/
  | routeSet
  /-- ROUTE_CLEAR (R113). -/
  | routeClear
  /-- ROUTE_READ (R114). -/
  | routeRead
  /-- CAPTURE_NOW (R135). -/
  | captureNow
  /-- RECORD_CONFIG (R133). -/
  | recordConfig
  /-- QUEUE_READ (R144). -/
  | queueRead
  /-- DELIVERY_CONFIG (R161). -/
  | deliveryConfig
  /-- FETCH (R158, R159). -/
  | fetch
  /-- TIME_READ (R120). -/
  | timeRead
  /-- TIME_SET (R121). -/
  | timeSet
  /-- SYNC_ARM (R123). -/
  | syncArm
  /-- SYNC_DISARM (R123). -/
  | syncDisarm
  /-- CHARACTER_RECEIVED (R168): a character received without error. -/
  | characterReceived (value : Byte)
  /-- DECODER_STATE_CHANGE (R3, R5, R13): these filtered lines of axis n change, which gives no count, no quadrature
  error and no index arrival. -/
  | decoderStateChange (n : AxisId) (lines : DecoderLines)
  /-- UNKNOWN_OP_REQUEST (R175): the oldest waiting request has no request operation identifier. -/
  | unknownOpRequest
  deriving DecidableEq, Repr

end Sys2Proof
end

