-- ==== Sys2Proof/Decode.lean ====
section
/-! DEFINITION. The decoder of the command table. No row of spec/opcode_table.json gives bits (every row's
"fields" is empty and none has "fixed"), so no word spells a command. The bytes that carry a request are
decoded where the spec has the part do it: the receiver (Machine/Link.lean) and the payload parsers
(Machine/Operands.lean). -/

namespace Sys2Proof

/-- The command that a table word spells: none, since no row of the table gives bits. -/
def decodeTableWord (_nbits _w : Nat) : Option Instr := none

end Sys2Proof
end

