-- ==== Sys2Proof/Config.lean ====
section
/-! DEFINITION. The constants of the part: capacities, identification values and the lengths of its time
units in ticks of 10 ns. Every value is the spec's own; the spec leaves no value of an operation open, so
there is no uninterpreted constant here (orders it leaves open are operands of the commands, see
notes/assumptions/4.md and 5.md, or choices of the model, see notes/assumptions/19.md to 21.md). -/

namespace Sys2Proof.Config

/-- Slots of the Entry Pool (R27). -/
def poolSlots : Nat := 512

/-- Records the Record Queue can hold (R137). -/
def queueCapacity : Nat := 256

/-- Requests the intake can hold (R173). -/
def intakeCapacity : Nat := 4

/-- Entries the reply cache can hold (R184). -/
def cacheCapacity : Nat := 8

/-- The consecutive-timeout count at which delivery stalls (R153). -/
def stallCount : Nat := 8

/-- Ticks of 10 ns in one step of 100 ns (output widths, trigger filters, the 100 ns separation of R79). -/
def ticksPerStep : Nat := 10

/-- Ticks of 10 ns in the filter of the SYNC line, 200 ns (R122). -/
def syncFilter : Nat := 20

/-- Ticks of 10 ns in 1 µs (trigger holdoff). -/
def ticksPerMicro : Nat := 100

/-- Ticks of 10 ns in 1 ms (link timers). -/
def ticksPerMilli : Nat := 100000

/-- The longest silence inside a frame, in ms (R170). -/
def interByteLimit : Nat := 2

/-- The top value of a 16-bit saturating counter (00_scope.md, 5.1). -/
def top16 : Nat := 65535

/-- The top value of the two 32-bit saturating loss counts (R140). -/
def top32 : Nat := 4294967295

/-- The greatest LINEAR position (R7). -/
def maxLinear : Int := 2147483647

/-- The least LINEAR position (R7). -/
def minLinear : Int := -2147483648

/-- The number of Timebase counts, 2^48 (R118). -/
def countModulus : Nat := 281474976710656

/-- The payload bytes a frame can carry (R194). -/
def maxPayload : Nat := 246

/-- The fixed part of a FETCH reply, in bytes (R158). -/
def fetchFixed : Nat := 21

/-- Vendor code (R202). -/
def vendorCode : Nat := 0x3A17

/-- Part code (R202). -/
def partCode : Nat := 0x04C4

/-- Revision (R202). -/
def revision : Nat := 2

/-- The axes in ascending order. -/
def allAxes : List AxisId := [0, 1, 2, 3]

/-- The output lines in ascending order. -/
def allLines : List LineId := [0, 1, 2, 3, 4, 5, 6, 7]

/-- The routes in ascending order. -/
def allRoutes : List RouteId := [0, 1, 2, 3, 4, 5, 6, 7, 8, 9, 10, 11, 12, 13, 14, 15]

end Sys2Proof.Config
end

