-- ==== Sys2Proof/Machine/State.lean ====
section
/-! DEFINITION. The state of the Ilbaven 4C: every table of state of the spec (Tables 1-1, 2-1, 3-1, 4-1, 5-1,
5-2, 6-1, 7-2, 8-1 and 9-1) as plain data, the queue of waiting commands, and the state after a cold reset. -/

namespace Sys2Proof.Machine

/-! ### Axis Counters (spec/01_axis_counters.md) -/

/-- Count mode (Table 1-1). -/
inductive CountMode where
  | quadX1
  | quadX2
  | quadX4
  | stepDir
  deriving DecidableEq, Repr

/-- Slip policy (Table 1-1). -/
inductive SlipPolicy where
  | correct
  | reportOnly
  deriving DecidableEq, Repr

/-- Index reporting (Table 1-1). -/
inductive IndexReporting where
  | off
  | slipOnly
  | all
  deriving DecidableEq, Repr

/-- A step direction, and the last direction of an axis (R6). -/
inductive Dir where
  | up
  | down
  deriving DecidableEq, Repr

/-- Homing direction qualifier (R19). -/
inductive DirQualifier where
  | any
  | up
  | down
  deriving DecidableEq, Repr

/-- LOST reason (Table 1-1); NONE is every reference state but LOST. -/
inductive LostReason where
  | quadErrors
  | overrange
  | slip
  deriving DecidableEq, Repr

/-- Homing sub-state (Table 1-1); NONE is every reference state but SEEKING. -/
inductive HomingSub where
  | awaitGate
  | awaitReference
  deriving DecidableEq, Repr

/-- Reference state with the homing sub-state and the LOST reason, each held only in its state. -/
inductive RefState where
  | unreferenced
  | seeking (sub : HomingSub)
  | referenced
  | lost (reason : LostReason)
  deriving DecidableEq, Repr

/-- Homing source (Table 1-5). -/
inductive HomingSource where
  | index
  | trigger
  | triggerThenIndex
  deriving DecidableEq, Repr

/-- The homing parameters (Table 1-1): source, input k, direction qualifier and preset, a signed 32-bit value. -/
structure HomingParams where
  source : HomingSource
  input : TriggerId
  qualifier : DirQualifier
  preset : Word32
  deriving DecidableEq, Repr

/-- The two axis modes (Table 1-1). An axis holds its mode as the form of its position. -/
inductive AxisMode where
  | linear
  | rotary
  deriving DecidableEq, Repr

/-- The position of an axis: the axis mode decides which form exists (Table 1-1). -/
inductive Position where
  | linear (x : Int)
  | rotary (turn : Word32) (angle : Nat)
  deriving DecidableEq, Repr

/-- The configuration items of Table 1-1 other than the axis mode. -/
structure AxisConfig where
  countMode : CountMode
  invert : Bool
  filter : Nat
  cpr : Nat
  tolerance : Nat
  slipLimit : Nat
  slipPolicy : SlipPolicy
  reporting : IndexReporting
  errorLimit : Nat
  deriving DecidableEq, Repr

/-- The decoder state: the filtered levels of A, B and index (Table 1-1). -/
structure Decoder where
  a : Level
  b : Level
  index : Level
  deriving DecidableEq, Repr

/-- A position word (R128): axis, turn and value, the two signed. -/
structure PosWord where
  axis : AxisId
  turn : Word32
  value : Word32
  deriving DecidableEq, Repr

/-- One Axis Counter (Table 1-1). -/
structure Axis where
  config : AxisConfig
  position : Position
  lastDir : Dir
  ref : RefState
  homing : HomingParams
  errors : Nat
  lastIndexTurn : Word32
  lastIndexValue : Word32
  lastSlip : Int
  decoder : Decoder
  deriving DecidableEq, Repr

/-! ### Compare entries and schedules (02_compare_entries_and_the_entry_pool.md, 03_schedules_and_commit.md) -/

/-- The direction of travel an entry accepts (Table 2-1). -/
inductive EntryDir where
  | up
  | down
  | either
  deriving DecidableEq, Repr

/-- Retire mode (Table 2-1). -/
inductive Retire where
  | once
  | repeated
  deriving DecidableEq, Repr

/-- The two actions that occupy a line (section 4.2), with their parameters. -/
inductive Timed where
  | pulse (width : Nat)
  | train (width count period : Nat)
  deriving DecidableEq, Repr

/-- An output action other than NONE (Table 2-1). -/
inductive OutAction where
  | timed (t : Timed)
  | set
  | clear
  | toggle
  deriving DecidableEq, Repr

/-- A compare entry (Table 2-1); `action` is none for NONE, and `mark` 0 is no mark. -/
structure Entry where
  tag : Nat
  position : Int
  dir : EntryDir
  retire : Retire
  action : Option (LineId × OutAction)
  record : Bool
  mark : Fin 4
  armed : Bool
  fires : Nat
  deriving DecidableEq, Repr

/-- Schedule state (Table 3-1). -/
inductive SchedState where
  | stopped
  | running
  | held
  deriving DecidableEq, Repr

/-- A pending commit with its run flag and, for AT_POSITION, its position p (Table 3-1). -/
inductive PendingCommit where
  | atTrigger (run : Bool)
  | atPosition (p : Int) (run : Bool)
  deriving DecidableEq, Repr

/-- One schedule (Table 3-1) with its active and staging lists (section 2.3). -/
structure Schedule where
  state : SchedState
  h : Nat
  commit : Option PendingCommit
  total : Word32
  active : List Entry
  staging : List Entry
  deriving DecidableEq, Repr

/-! ### Output Unit (04_output_lines.md) -/

/-- Conflict policy (Table 4-1). -/
inductive Policy where
  | preempt
  | queue
  | drop
  deriving DecidableEq, Repr

/-- Phase of a running action (Table 4-1). -/
inductive LinePhase where
  | lead
  | active
  | gap
  deriving DecidableEq, Repr

/-- A running action with its phase and remaining pulses (Table 4-1). `due` is the moment, on the Output
Unit's own time measure (R82), at which the present phase ends. -/
structure Running where
  action : Timed
  phase : LinePhase
  remaining : Nat
  due : Nat
  deriving DecidableEq, Repr

/-- One output line (Table 4-1). -/
structure Line where
  idle : Level
  safeLevel : Level
  policy : Policy
  report : Bool
  steady : Level
  running : Option Running
  lastPulseEnd : Option Nat
  waiting : Option OutAction
  drops : Nat
  preempts : Nat
  deriving DecidableEq, Repr

/-! ### Trigger inputs and routes (05_trigger_inputs_and_the_route_table.md) -/

/-- Edge selection (Table 5-1). -/
inductive EdgeSelection where
  | off
  | rise
  | fall
  | both
  deriving DecidableEq, Repr

/-- The polarity of an edge. -/
inductive Edge where
  | rise
  | fall
  deriving DecidableEq, Repr

/-- One trigger input (Table 5-1). `holdoffEnd` is the moment a running holdoff ends; none: not running. -/
structure Trigger where
  selection : EdgeSelection
  filter : Nat
  holdoff : Nat
  level : Level
  holdoffEnd : Option Nat
  accepted : Nat
  filtered : Nat
  heldOff : Nat
  deriving DecidableEq, Repr

/-- The edge a TRIG route names (Table 5-3). -/
inductive RouteEdge where
  | rise
  | fall
  | any
  deriving DecidableEq, Repr

/-- A route's source (Table 5-3). -/
inductive RouteSource where
  | trig (k : TriggerId) (edge : RouteEdge)
  | index (n : AxisId)
  | mark (n : AxisId) (m : Fin 4)
  | axisLost (n : AxisId)
  | schedDone (n : AxisId)
  deriving DecidableEq, Repr

/-- A subset of AX0–AX3: bit n stands for axis n (R192). -/
abbrev AxisSet := BitVec 4

/-- A route's action (Table 5-4). -/
inductive RouteAction where
  | capture (axes : AxisSet)
  | start (n : AxisId)
  | stop (n : AxisId)
  | commit (n : AxisId)
  | output (l : LineId) (action : OutAction)
  deriving DecidableEq, Repr

/-- One route (Table 5-2); source and action none are NONE. -/
structure Route where
  enable : Bool
  source : Option RouteSource
  divider : Nat
  counter : Nat
  action : Option RouteAction
  matched : Nat
  acted : Nat
  shadowed : Nat
  deriving DecidableEq, Repr

/-! ### Timebase (06_timebase.md) -/

/-- An armed SYNC load (Table 6-1). -/
structure SyncArm where
  value : Ticks
  edge : Edge
  deriving DecidableEq, Repr

/-- The Timebase (Table 6-1); `arm` none is disarmed. -/
structure Timebase where
  count : Ticks
  arm : Option SyncArm
  syncLevel : Level
  deriving DecidableEq, Repr

/-! ### Record Queue (07_the_record_queue.md) -/

/-- AXIS record reasons (Table 1-4). -/
inductive AxisReason where
  | homed
  | set
  | homeCancelled
  | config
  | lost (reason : LostReason)
  deriving DecidableEq, Repr

/-- SCHEDULE record reasons (Table 3-4). -/
inductive SchedReason where
  | held
  | done
  | committed
  | commitCancelled
  deriving DecidableEq, Repr

/-- The per-line OUTPUT record reasons (Table 4-2). -/
inductive LineReason where
  | preempted
  | dropped
  | droppedSafe
  deriving DecidableEq, Repr

/-- The source of a CAPTURE record (R129). -/
inductive CaptureSource where
  | trig (k : TriggerId) (edge : Edge)
  | index
  | mark
  | axisLost
  | schedDone
  | host
  deriving DecidableEq, Repr

/-- The kind of a record with its detail (section 7.2); a `capture` with no route is CAPTURE_NOW's. -/
inductive Detail where
  | capture (route : Option RouteId) (source : CaptureSource) (divider : Nat)
  | compare (tag : Nat) (dir : Dir) (fires : Nat)
  | index (slip : Int) (corrected clean : Bool)
  | axis (state : RefState) (reason : AxisReason) (errors : Nat)
  | schedule (n : AxisId) (reason : SchedReason) (count : Nat)
  | output (l : LineId) (reason : LineReason) (drops preempts : Nat)
  | safeEntered (pendings runnings : Nat)
  | timeSync (old : Ticks)
  | gap (lost : Nat)
  deriving DecidableEq, Repr

/-- A record as its producer makes it (R127), before the queue gives it a number. -/
structure Item where
  detail : Detail
  time : Ticks
  positions : List PosWord
  deriving DecidableEq, Repr

/-- An admitted record (R127). -/
structure Record where
  seq : Word32
  item : Item
  deriving DecidableEq, Repr

/-- The four kind enables (R133). -/
structure KindEnables where
  axis : Bool
  schedule : Bool
  output : Bool
  timeSync : Bool
  deriving DecidableEq, Repr

/-- The Record Queue (Table 7-2). Occupancy and oldest sequence number are computed from the records. -/
structure RecordQueue where
  records : List Record
  next : Word32
  pendingLoss : Nat
  totalLost : Nat
  totalAdmitted : Word32
  enables : KindEnables
  deriving DecidableEq, Repr

/-! ### Delivery Controller (08_record_delivery.md) -/

/-- Delivery mode (Table 8-1). -/
inductive DeliveryMode where
  | stream
  | poll
  deriving DecidableEq, Repr

/-- The Delivery Controller (Table 8-1). `ackTimer` is the moment of expiry; none: stopped. -/
structure Delivery where
  mode : DeliveryMode
  window : Nat
  ackTimeout : Nat
  sendPoint : Word32
  highMark : Word32
  ackTimer : Option Nat
  timeouts : Nat
  stalled : Bool
  ackErrors : Nat
  deriving DecidableEq, Repr

/-! ### Host Link (09_host_link_and_sessions.md) -/

/-- Baud rate (Table 9-1). -/
inductive Baud where
  | b115200
  | b230400
  | b460800
  | b921600
  | b1843200
  | b3000000
  deriving DecidableEq, Repr

/-- Receiver state with the frame in progress (Table 9-1). -/
inductive Receiver where
  | hunt
  | length
  | body (len : Byte) (got : List Byte)
  | check (len : Byte) (got : List Byte) (crcHigh : Option Byte)
  deriving DecidableEq, Repr

/-- Loss action (Table 9-1). -/
inductive LossAction where
  | none
  | safeOutputs
  | safeAndStop
  deriving DecidableEq, Repr

/-- What a session holds while ATTACHED (Table 9-1). -/
structure Session where
  keepalive : Nat
  loss : LossAction
  deriving DecidableEq, Repr

/-- Dispatch hold (Table 9-1). -/
inductive Hold where
  | none
  | detach
  | restart
  deriving DecidableEq, Repr

/-- A request as received (R171, R173) with the fingerprint of R184. -/
structure Request where
  retry : Bool
  tag : Byte
  op : Byte
  payload : List Byte
  fingerprint : Word16
  deriving DecidableEq, Repr

/-- The status of a reply (Table 10-3). -/
inductive Status where
  | ok
  | accepted
  | unknownOp
  | badLength
  | badParam
  | notAttached
  | wrongState
  | notReferenced
  | outputsSafe
  | noSpace
  | dupTag
  | noEntry
  | emptyList
  | retryMismatch
  deriving DecidableEq, Repr

/-- A reply (R176); `resent` is its RETRY flag. -/
structure Reply where
  tag : Byte
  op : Byte
  status : Status
  payload : List Byte
  resent : Bool
  deriving DecidableEq, Repr

/-- What a queued reply orders beyond its own sending: the session end of a DETACH when it is taken (R181),
the rate of a LINK_CONFIG (R167) or the warm reset of a RESTART (R189) when its last byte has left. -/
inductive Closing where
  | nothing
  | sessionEnd
  | rate (b : Baud)
  | warmReset
  deriving DecidableEq, Repr

/-- A reply in the reply queue, with what it orders. -/
structure QueuedReply where
  reply : Reply
  closing : Closing
  deriving DecidableEq, Repr

/-- An entry of the reply cache (R184). -/
structure CacheEntry where
  tag : Byte
  fingerprint : Word16
  reply : Reply
  deriving DecidableEq, Repr

/-- The transmitter (Table 9-1), with the bytes of the frame being sent. -/
inductive Transmitter where
  | free
  | sending (frame : List Byte) (closing : Closing)
  deriving DecidableEq, Repr

/-- HELLO reason (R186). -/
inductive HelloReason where
  | cold
  | warm
  deriving DecidableEq, Repr

/-- A pending HELLO with what it was made from (R186). -/
structure Hello where
  reason : HelloReason
  next : Word32
  deriving DecidableEq, Repr

/-- The link statistics (R188). -/
structure LinkStats where
  framesAccepted : Word32
  crcErrors : Nat
  lengthErrors : Nat
  characterErrors : Nat
  gapDiscards : Nat
  intakeOverruns : Nat
  retriesServed : Nat
  discardedNotices : Nat
  wrongKind : Nat
  deriving DecidableEq, Repr

/-- The Host Link (Table 9-1). The intake is the waiting requests here and, for each request already taken,
its reply in `replies` (R173); `session` none is DETACHED; `rxLast` is the moment the last character of the
frame in progress ended (R170); `keepalive` is the moment of expiry of the keepalive timer; the reply cache
stands most recent first. -/
structure Link where
  baud : Baud
  receiver : Receiver
  rxLast : Nat
  session : Option Session
  keepalive : Option Nat
  waiting : List Request
  hold : Hold
  replies : List QueuedReply
  transmitter : Transmitter
  hello : Option Hello
  cache : List CacheEntry
  stats : LinkStats
  deriving DecidableEq, Repr

/-! ### The input lines -/

/-- What the A, B and index lines of one axis do, each as the list of moments, earliest first, at which the line
changes its level and of which its filter has not yet made anything: the changes that are past (a filter time that
runs, or has run) and those still to come. -/
structure AxisWires where
  a : List Nat
  b : List Nat
  index : List Nat
  deriving DecidableEq, Repr

/-- What all input lines do (R2, R98, R122): for each filtered line its changes not yet judged, on the measure `now`.
Before the first listed change a line stands at the filtered level its block holds. -/
structure Wires where
  axes : Vector AxisWires 4
  triggers : Vector (List Nat) 6
  sync : List Nat
  deriving DecidableEq, Repr

/-! ### The whole part -/

/-- Whether the part runs or stands in one of its two resets (R189, R190). -/
inductive Phase where
  | running
  | coldReset
  | warmReset
  deriving DecidableEq, Repr

/-- The state of the part. `now` is the model's own: ticks of 10 ns, on which every duration runs (R125); `wires` are
the input lines with their filters' progress; `free` is the free count of the Entry Pool (R27); `safe` is the SAFE
condition (R76); `pending` is the queue of commands that wait, first in first out. -/
structure State where
  phase : Phase
  now : Nat
  wires : Wires
  axes : Vector Axis 4
  scheds : Vector Schedule 4
  free : Nat
  lines : Vector Line 8
  safe : Bool
  triggers : Vector Trigger 6
  routes : Vector Route 16
  timebase : Timebase
  queue : RecordQueue
  delivery : Delivery
  link : Link
  pending : List Instr
  deriving DecidableEq, Repr

/-- Why the part would stop with a fault. There is none: the spec gives no event after which the part stops, and
every command of this model answers a next state (safe: nothing is cut off by a fault). -/
inductive Fault where
  deriving DecidableEq, Repr

/-- Why a command has no meaning. -/
inductive Refusal where
  /-- The command is not modelled yet. Raised by no arm of exec: every row has its meaning. Safe. -/
  | notModelled (mnemonic : String)
  deriving DecidableEq, Repr

/-! ### Reset values -/

/-- The configuration of an axis after a reset (Table 1-1). -/
def AxisConfig.reset : AxisConfig where
  countMode := .quadX4
  invert := false
  filter := 0
  cpr := 4096
  tolerance := 1
  slipLimit := 64
  slipPolicy := .correct
  reporting := .off
  errorLimit := 16

/-- An axis after a reset (Table 1-1), with the decoder levels it takes from its lines. -/
def Axis.reset (d : Decoder) : Axis where
  config := .reset
  position := .linear 0
  lastDir := .up
  ref := .unreferenced
  homing := ⟨.index, 0, .any, 0#32⟩
  errors := 0
  lastIndexTurn := 0#32
  lastIndexValue := 0#32
  lastSlip := 0
  decoder := d

/-- A schedule after a reset (Table 3-1, R27). -/
def Schedule.reset : Schedule where
  state := .stopped
  h := 1
  commit := none
  total := 0#32
  active := []
  staging := []

/-- An output line after a reset (Table 4-1). -/
def Line.reset : Line where
  idle := .low
  safeLevel := .low
  policy := .queue
  report := true
  steady := .low
  running := none
  lastPulseEnd := none
  waiting := none
  drops := 0
  preempts := 0

/-- A trigger input after a reset (Table 5-1), with the level it takes from its line. -/
def Trigger.reset (level : Level) : Trigger where
  selection := .off
  filter := 0
  holdoff := 0
  level := level
  holdoffEnd := none
  accepted := 0
  filtered := 0
  heldOff := 0

/-- A route after a reset (Table 5-2). -/
def Route.reset : Route where
  enable := false
  source := none
  divider := 1
  counter := 0
  action := none
  matched := 0
  acted := 0
  shadowed := 0

/-- The Record Queue after a reset that leaves this next sequence number (Table 7-2). -/
def RecordQueue.reset (next : Word32) : RecordQueue where
  records := []
  next := next
  pendingLoss := 0
  totalLost := 0
  totalAdmitted := 0#32
  enables := ⟨true, true, true, true⟩

/-- The Delivery Controller after a reset (Table 8-1): both points at the oldest sequence number, which is
the next one, since the queue is empty. -/
def Delivery.reset (oldest : Word32) : Delivery where
  mode := .stream
  window := 4
  ackTimeout := 200
  sendPoint := oldest
  highMark := oldest
  ackTimer := none
  timeouts := 0
  stalled := false
  ackErrors := 0

/-- The link statistics after a reset (Table 9-1). -/
def LinkStats.reset : LinkStats := ⟨0#32, 0, 0, 0, 0, 0, 0, 0, 0⟩

/-- The Host Link after a reset that leaves this baud rate (Table 9-1), with its HELLO not yet made. -/
def Link.reset (baud : Baud) : Link where
  baud := baud
  receiver := .hunt
  rxLast := 0
  session := none
  keepalive := none
  waiting := []
  hold := .none
  replies := []
  transmitter := .free
  hello := none
  cache := []
  stats := .reset

/-- Input lines that stand still. -/
def Wires.still : Wires where
  axes := Vector.replicate 4 ⟨[], [], []⟩
  triggers := Vector.replicate 6 []
  sync := []

/-- The part right after a cold reset has completed with every input line LOW and no line changing (R190; the values of the reset
tables; HELLO with reason COLD pending; no command waiting). -/
def State.reset : State where
  phase := .running
  now := 0
  wires := .still
  axes := Vector.replicate 4 (.reset ⟨.low, .low, .low⟩)
  scheds := Vector.replicate 4 .reset
  free := Config.poolSlots
  lines := Vector.replicate 8 .reset
  safe := false
  triggers := Vector.replicate 6 (.reset .low)
  routes := Vector.replicate 16 .reset
  timebase := ⟨0#48, none, .low⟩
  queue := .reset 1#32
  delivery := .reset 1#32
  link := { Link.reset .b115200 with hello := some ⟨.cold, 1#32⟩ }
  pending := []

end Sys2Proof.Machine
end

