-- ==== Sys2Proof/Machine/Ops.lean ====
section
/-! DEFINITION. The named operations over the state that every block shares: reading and replacing one axis,
schedule, line, input or route; the passing of time; the Record Queue's admission, loss and removal. -/

namespace Sys2Proof.Machine

/-! ### One unit of a block -/

/-- Axis Counter n. -/
def State.axis (s : State) (n : AxisId) : Axis := s.axes[n]

/-- The state with Axis Counter n replaced. -/
def State.setAxis (s : State) (n : AxisId) (a : Axis) : State := { s with axes := s.axes.set n a }

/-- The schedule of axis n. -/
def State.sched (s : State) (n : AxisId) : Schedule := s.scheds[n]

/-- The state with the schedule of axis n replaced. -/
def State.setSched (s : State) (n : AxisId) (c : Schedule) : State := { s with scheds := s.scheds.set n c }

/-- Output line l. -/
def State.line (s : State) (l : LineId) : Line := s.lines[l]

/-- The state with output line l replaced. -/
def State.setLine (s : State) (l : LineId) (x : Line) : State := { s with lines := s.lines.set l x }

/-- Trigger input k. -/
def State.trigger (s : State) (k : TriggerId) : Trigger := s.triggers[k]

/-- The state with trigger input k replaced. -/
def State.setTrigger (s : State) (k : TriggerId) (t : Trigger) : State :=
  { s with triggers := s.triggers.set k t }

/-- Route r. -/
def State.route (s : State) (r : RouteId) : Route := s.routes[r]

/-- The state with route r replaced. -/
def State.setRoute (s : State) (r : RouteId) (x : Route) : State := { s with routes := s.routes.set r x }

/-! ### The other blocks, replaced whole -/

/-- The state with the free count of the Entry Pool replaced. -/
def State.setFree (s : State) (f : Nat) : State := { s with free := f }

/-- The state with the Timebase replaced. -/
def State.setTimebase (s : State) (t : Timebase) : State := { s with timebase := t }

/-- The state with the Record Queue replaced. -/
def State.setQueue (s : State) (q : RecordQueue) : State := { s with queue := q }

/-- The state with the Delivery Controller replaced. -/
def State.setDelivery (s : State) (d : Delivery) : State := { s with delivery := d }

/-- The state with the Host Link replaced. -/
def State.setLink (s : State) (l : Link) : State := { s with link := l }

/-- The state with what the input lines do replaced. -/
def State.setWires (s : State) (w : Wires) : State := { s with wires := w }

/-- The lines of axis n. -/
def State.axisWires (s : State) (n : AxisId) : AxisWires := s.wires.axes[n]

/-- The state with the lines of axis n replaced. -/
def State.setAxisWires (s : State) (n : AxisId) (w : AxisWires) : State :=
  s.setWires { s.wires with axes := s.wires.axes.set n w }

/-- The line of trigger input k. -/
def State.triggerWire (s : State) (k : TriggerId) : List Nat := s.wires.triggers[k]

/-- The state with the line of trigger input k replaced. -/
def State.setTriggerWire (s : State) (k : TriggerId) (w : List Nat) : State :=
  s.setWires { s.wires with triggers := s.wires.triggers.set k w }

/-- The state with the SYNC line replaced. -/
def State.setSyncWire (s : State) (w : List Nat) : State := s.setWires { s.wires with sync := w }

/-! ### Counters -/

/-- One more, staying at 65,535 (00_scope.md, 5.1). -/
def inc16 (n : Nat) : Nat := min (n + 1) Config.top16

/-- One more, staying at 2^32−1 (R140). -/
def inc32 (n : Nat) : Nat := min (n + 1) Config.top32

/-! ### Time -/

/-- `d` ticks of 10 ns pass: every time measure runs on, and so does the Timebase count, which stays at 0
during a cold reset (R117, R118, R125). -/
def State.advance (d : Nat) (s : State) : State :=
  { s with
    now := s.now + d
    timebase :=
      { s.timebase with
        count := if s.phase = .coldReset then s.timebase.count else s.timebase.count + BitVec.ofNat 48 d } }

/-- Time runs on to the moment `t`, if it has not passed yet. -/
def State.runTo (t : Nat) (s : State) : State := s.advance (t - s.now)

/-- An event of a running part: in a cold or a warm reset it is not taken (R189, R190). -/
def whenRunning (f : State → State) (s : State) : State :=
  match s.phase with
  | .running => f s
  | .coldReset => s
  | .warmReset => s

/-! ### Positions -/

/-- The axis mode, held as the form of the position (Table 1-1). -/
def Position.mode : Position → AxisMode
  | .linear _ => .linear
  | .rotary _ _ => .rotary

/-- What an entry's position is compared with: the LINEAR position or the ROTARY angle (R9, R45). -/
def Position.value : Position → Int
  | .linear x => x
  | .rotary _ angle => (angle : Int)

/-- The turn of a position word: 0 for a LINEAR axis (R128). -/
def Position.turn : Position → Word32
  | .linear _ => 0#32
  | .rotary turn _ => turn

/-- The position word of an axis (R128). -/
def Axis.posWord (n : AxisId) (a : Axis) : PosWord := ⟨n, a.position.turn, BitVec.ofInt 32 a.position.value⟩

/-- The position words of the axes of a set, in ascending axis order (R108, R128, R135). -/
def posWords (axes : Vector Axis 4) (set : AxisSet) : List PosWord :=
  (Config.allAxes.filter fun n => set.getLsbD n.val).map fun n => axes[n].posWord n

/-! ### The Record Queue -/

/-- The oldest sequence number (Table 7-2): the oldest record's, or the next one when the queue is empty. -/
def RecordQueue.oldest (q : RecordQueue) : Word32 :=
  match q.records with
  | [] => q.next
  | r :: _ => r.seq

/-- The number of records held (Table 7-2). -/
def RecordQueue.occupancy (q : RecordQueue) : Nat := q.records.length

/-- The distance of a sequence number from the oldest record, modulo 2^32 (R137, R148). -/
def RecordQueue.distance (q : RecordQueue) (x : Word32) : Nat := (x - q.oldest).toNat

/-- Admission (R138): the record takes the next sequence number and the newest place. -/
def RecordQueue.place (q : RecordQueue) (i : Item) : RecordQueue :=
  { q with
    records := q.records ++ [⟨q.next, i⟩]
    next := q.next + 1#32
    totalAdmitted := q.totalAdmitted + 1#32 }

/-- Loss (R140): the record takes no number, and only the two loss counts change. -/
def RecordQueue.lose (q : RecordQueue) : RecordQueue :=
  { q with pendingLoss := inc32 q.pendingLoss, totalLost := inc32 q.totalLost }

/-- A record reaches the queue (R138, R140): it is admitted when the occupancy is less than 256, else lost. -/
def RecordQueue.receive (q : RecordQueue) (i : Item) : RecordQueue :=
  if q.occupancy < Config.queueCapacity then q.place i else q.lose

/-- The removal of the k oldest records (R141), with the GAP record of R142 when losses are pending. -/
def RecordQueue.remove (q : RecordQueue) (k : Nat) (time : Ticks) : RecordQueue :=
  let left := { q with records := q.records.drop k }
  if q.pendingLoss = 0 then left
  else { left.place ⟨.gap q.pendingLoss, time, []⟩ with pendingLoss := 0 }

/-- A producer hands a record to the Record Queue (R127). -/
def State.produce (s : State) (i : Item) : State := s.setQueue (s.queue.receive i)

/-- A producer tests a kind enable and hands the record over when it is yes (R134). -/
def State.produceIf (s : State) (enable : Bool) (i : Item) : State := if enable then s.produce i else s

end Sys2Proof.Machine
end

