-- ==== Sys2Proof/Machine/Output.lean ====
section
/-! DEFINITION. The Output Unit (spec/04_output_lines.md): what a line does with an action, the ends of its
phases, and the SAFE condition. -/

namespace Sys2Proof.Machine

/-- The width of a PULSE or of each pulse of a TRAIN, in steps of 100 ns. -/
def Timed.width : Timed → Nat
  | .pulse w => w
  | .train w _ _ => w

/-- The pulses an action starts with (R79, R80). -/
def Timed.pulses : Timed → Nat
  | .pulse _ => 1
  | .train _ count _ => count

/-- The steps between a pulse's end and the next pulse's begin: period less width (R80). -/
def Timed.gap : Timed → Nat
  | .pulse _ => 0
  | .train w _ period => period - w

/-- The level of the pin (R77). A line after a reset drives LOW by its reset values. -/
def Line.pin (safe : Bool) (x : Line) : Level :=
  if safe then x.safeLevel
  else match x.running with
    | some r => match r.phase with
      | .active => x.steady.flip
      | .lead => x.steady
      | .gap => x.steady
    | none => x.steady

/-- A PULSE or TRAIN starts on a free line (R79, R80): in LEAD while less than 100 ns have passed since the
end of the line's last pulse, else in ACTIVE. -/
def Line.start (now : Nat) (t : Timed) (x : Line) : Line :=
  let active : Running := ⟨t, .active, t.pulses, now + t.width * Config.ticksPerStep⟩
  match x.lastPulseEnd with
  | none => { x with running := some active }
  | some e =>
    if now < e + Config.ticksPerStep then
      { x with running := some ⟨t, .lead, t.pulses, e + Config.ticksPerStep⟩ }
    else { x with running := some active }

/-- A free line takes an action (R78 to R80). -/
def Line.takeFree (now : Nat) (act : OutAction) (x : Line) : Line :=
  match act with
  | .set => { x with steady := .high }
  | .clear => { x with steady := .low }
  | .toggle => { x with steady := x.steady.flip }
  | .timed t => x.start now t

/-- The running action ends at once, in whatever phase it stands (R83, R90): a pulse cut short in ACTIVE is
the line's last pulse. -/
def Line.cutShort (now : Nat) (x : Line) : Line :=
  match x.running with
  | none => x
  | some r => match r.phase with
    | .active => { x with running := none, lastPulseEnd := some now }
    | .lead => { x with running := none }
    | .gap => { x with running := none }

/-- The running action ends and the waiting one is discarded, without counting (R90, R91, R93). -/
def Line.stop (now : Nat) (x : Line) : Line := { x.cutShort now with waiting := none }

/-- What becomes of an action that reaches a line (R89). -/
inductive ActionOutcome where
  | applied
  | started
  | preempted
  | queued
  | dropped
  deriving DecidableEq, Repr

/-- A per-line OUTPUT record is made when the OUTPUT enable and the line's report flag are yes (R88, R134). -/
def lineRecord (l : LineId) (reason : LineReason) (s : State) : State :=
  s.produceIf (s.queue.enables.output && (s.line l).report)
    ⟨.output l reason (s.line l).drops (s.line l).preempts, s.timebase.count, []⟩

/-- An action is dropped at a line and counted (R84, R85, R87, R94). -/
def dropAction (l : LineId) (reason : LineReason) (s : State) : State :=
  lineRecord l reason (s.setLine l { s.line l with drops := inc16 (s.line l).drops })

/-- An action takes its line after a preemption or on a free line: a PULSE or TRAIN starts. -/
def OutAction.outcome (act : OutAction) (onTimed : ActionOutcome) : ActionOutcome :=
  match act with
  | .timed _ => onTimed
  | .set => .applied
  | .clear => .applied
  | .toggle => .applied

/-- The running action is preempted (R83, steps 1 to 3): cut short, counted and reported. -/
def preempt (l : LineId) (s : State) : State :=
  let x := (s.line l).cutShort s.now
  lineRecord l .preempted (s.setLine l { x with preempts := inc16 x.preempts })

/-- A line takes an arriving action while the unit is not SAFE (R78 to R85). -/
def takeAction (l : LineId) (act : OutAction) (s : State) : State × ActionOutcome :=
  match (s.line l).running with
  | none => (s.setLine l ((s.line l).takeFree s.now act), act.outcome .started)
  | some _ =>
    match (s.line l).policy with
    | .preempt =>
      let p := preempt l s
      (p.setLine l ((p.line l).takeFree p.now act), act.outcome .preempted)
    | .queue =>
      match (s.line l).waiting with
      | none => (s.setLine l { s.line l with waiting := some act }, .queued)
      | some _ => (dropAction l .dropped s, .dropped)
    | .drop => (dropAction l .dropped s, .dropped)

/-- An action from a compare firing or a route reaches its line; in SAFE it is dropped (R94). -/
def issueAction (l : LineId) (act : OutAction) (s : State) : State :=
  if s.safe then dropAction l .droppedSafe s else (takeAction l act s).1

/-- The number of lines with a running action. -/
def runningCount (s : State) : Nat := (Config.allLines.filter fun l => (s.line l).running.isSome).length

/-- The number of lines with a waiting action. -/
def waitingCount (s : State) : Nat := (Config.allLines.filter fun l => (s.line l).waiting.isSome).length

/-- SAFE entry (R93): every running and waiting action ends uncounted, the unit becomes SAFE and a SAFE_ENTERED
record tells their numbers; a unit already SAFE stays as it is. -/
def enterSafe (s : State) : State :=
  if s.safe then s
  else
    State.produceIf { s with lines := s.lines.map (Line.stop s.now), safe := true } s.queue.enables.output
      ⟨.safeEntered (waitingCount s) (runningCount s), s.timebase.count, []⟩

/-- Release (R95): every line's steady level becomes its idle level. -/
def leaveSafe (s : State) : State :=
  if s.safe then { s with lines := s.lines.map (fun x => { x with steady := x.idle }), safe := false } else s

/-! ### The ends of the phases -/

/-- The LEAD ends and the first pulse begins (R79). -/
def endLead (l : LineId) (s : State) : State :=
  match (s.line l).running with
  | none => s
  | some r => match r.phase with
    | .lead =>
      (s.runTo r.due).setLine l
        { s.line l with
          running := some { r with phase := .active, due := r.due + r.action.width * Config.ticksPerStep } }
    | .active => s
    | .gap => s

/-- A GAP ends and the next pulse of the train begins (R80). -/
def endGap (l : LineId) (s : State) : State :=
  match (s.line l).running with
  | none => s
  | some r => match r.phase with
    | .gap =>
      (s.runTo r.due).setLine l
        { s.line l with
          running := some { r with phase := .active, due := r.due + r.action.width * Config.ticksPerStep } }
    | .active => s
    | .lead => s

/-- The line at the end of a pulse (R80, R81): the remaining pulses fall by 1; a GAP follows while any is
left, and otherwise the action ends and the waiting action, if any, is taken as by a free line. -/
def Line.endPulse (now : Nat) (r : Running) (x : Line) : Line :=
  let ended := { x with lastPulseEnd := some now }
  if 1 < r.remaining then
    { ended with
      running := some { r with
        phase := .gap
        remaining := r.remaining - 1
        due := r.due + r.action.gap * Config.ticksPerStep } }
  else
    match x.waiting with
    | none => { ended with running := none }
    | some act => Line.takeFree now act { ended with running := none, waiting := none }

/-- A pulse ends at its width (R79 to R81). -/
def endPulse (l : LineId) (s : State) : State :=
  match (s.line l).running with
  | none => s
  | some r => match r.phase with
    | .active => (s.runTo r.due).setLine l ((s.line l).endPulse (s.runTo r.due).now r)
    | .lead => s
    | .gap => s

end Sys2Proof.Machine
end

