-- ==== Sys2Proof/Machine/Codec.lean ====
section
/-! DEFINITION. The byte encodings of spec/10_message_formats.md: fields, codes, the compare entry, the position
word, the record, the frame and its CRC. -/

namespace Sys2Proof.Machine

/-! ### Fields (R192) -/

/-- An unsigned field of k bytes, most significant byte first. -/
def bytesBE : Nat → Nat → List Byte
  | 0, _ => []
  | k + 1, v => bytesBE k (v / 256) ++ [BitVec.ofNat 8 v]

/-- The unsigned number that bytes carry, most significant byte first. -/
def numBE (bs : List Byte) : Nat := bs.foldl (fun acc b => acc * 256 + b.toNat) 0

/-- The 32-bit word that bytes carry. -/
def wordBE (bs : List Byte) : Word32 := BitVec.ofNat 32 (numBE bs)

/-- A one-byte field. -/
def byteOf (v : Nat) : Byte := BitVec.ofNat 8 v

/-- A 32-bit field. -/
def wordBytes (w : Word32) : List Byte := bytesBE 4 w.toNat

/-- A signed 32-bit field. -/
def intBytes (x : Int) : List Byte := wordBytes (BitVec.ofInt 32 x)

/-- A flag: 0 is no, 1 is yes. -/
def flagByte (b : Bool) : Byte := if b then 1#8 else 0#8

/-! ### Codes of enumerated values (R193, Table 10-1) -/

/-- Level codes. -/
def levelCode : Level → Byte
  | .low => 0#8
  | .high => 1#8

/-- Reference state codes. -/
def RefState.code : RefState → Byte
  | .unreferenced => 0#8
  | .seeking _ => 1#8
  | .referenced => 2#8
  | .lost _ => 3#8

/-- Homing sub-state codes. -/
def RefState.subCode : RefState → Byte
  | .seeking .awaitGate => 1#8
  | .seeking .awaitReference => 2#8
  | .unreferenced => 0#8
  | .referenced => 0#8
  | .lost _ => 0#8

/-- LOST reason codes. -/
def RefState.lostCode : RefState → Byte
  | .lost .quadErrors => 1#8
  | .lost .overrange => 2#8
  | .lost .slip => 3#8
  | .unreferenced => 0#8
  | .seeking _ => 0#8
  | .referenced => 0#8

/-- AXIS record reason codes. -/
def AxisReason.code : AxisReason → Byte
  | .homed => 1#8
  | .set => 2#8
  | .homeCancelled => 3#8
  | .config => 4#8
  | .lost .quadErrors => 5#8
  | .lost .overrange => 6#8
  | .lost .slip => 7#8

/-- Step direction and last direction codes. -/
def Dir.code : Dir → Byte
  | .up => 1#8
  | .down => 2#8

/-- Entry direction codes. -/
def EntryDir.code : EntryDir → Nat
  | .up => 1
  | .down => 2
  | .either => 3

/-- Output action kind codes. -/
def OutAction.code : OutAction → Nat
  | .timed (.pulse _) => 1
  | .set => 2
  | .clear => 3
  | .toggle => 4
  | .timed (.train _ _ _) => 5

/-- Schedule state codes. -/
def SchedState.code : SchedState → Byte
  | .stopped => 0#8
  | .running => 1#8
  | .held => 2#8

/-- SCHEDULE record reason codes. -/
def SchedReason.code : SchedReason → Byte
  | .held => 1#8
  | .done => 2#8
  | .committed => 3#8
  | .commitCancelled => 4#8

/-- Conflict policy codes. -/
def Policy.code : Policy → Byte
  | .preempt => 0#8
  | .queue => 1#8
  | .drop => 2#8

/-- Phase codes. -/
def LinePhase.code : LinePhase → Byte
  | .lead => 0#8
  | .active => 1#8
  | .gap => 2#8

/-- OUTPUT_ACTION outcome codes. -/
def ActionOutcome.code : ActionOutcome → Byte
  | .applied => 0#8
  | .started => 1#8
  | .preempted => 2#8
  | .queued => 3#8
  | .dropped => 4#8

/-- Per-line OUTPUT record reason codes. -/
def LineReason.code : LineReason → Byte
  | .preempted => 1#8
  | .dropped => 2#8
  | .droppedSafe => 3#8

/-- Edge selection codes. -/
def EdgeSelection.code : EdgeSelection → Byte
  | .off => 0#8
  | .rise => 1#8
  | .fall => 2#8
  | .both => 3#8

/-- Accepted edge and SYNC arm edge codes. -/
def Edge.code : Edge → Byte
  | .rise => 1#8
  | .fall => 2#8

/-- Route edge codes. -/
def RouteEdge.code : RouteEdge → Byte
  | .rise => 1#8
  | .fall => 2#8
  | .any => 3#8

/-- Delivery mode codes. -/
def DeliveryMode.code : DeliveryMode → Byte
  | .stream => 0#8
  | .poll => 1#8

/-- HELLO reason codes. -/
def HelloReason.code : HelloReason → Byte
  | .cold => 1#8
  | .warm => 2#8

/-- Status codes (R195, Table 10-3). -/
def Status.code : Status → Byte
  | .ok => 0x00#8
  | .accepted => 0x01#8
  | .unknownOp => 0x10#8
  | .badLength => 0x11#8
  | .badParam => 0x12#8
  | .notAttached => 0x20#8
  | .wrongState => 0x21#8
  | .notReferenced => 0x22#8
  | .outputsSafe => 0x23#8
  | .noSpace => 0x30#8
  | .dupTag => 0x31#8
  | .noEntry => 0x32#8
  | .emptyList => 0x33#8
  | .retryMismatch => 0x40#8

/-! ### Compare entry, output parameters and position word (R197, R198, R201) -/

/-- Width, train count and train period, each 0 where the action does not use it (R197, R201). -/
def OutAction.params : OutAction → List Byte
  | .timed (.pulse w) => bytesBE 2 w ++ bytesBE 2 0 ++ bytesBE 2 0
  | .timed (.train w count period) => bytesBE 2 w ++ bytesBE 2 count ++ bytesBE 2 period
  | .set => bytesBE 6 0
  | .clear => bytesBE 6 0
  | .toggle => bytesBE 6 0

/-- The flags byte of an entry: direction, retire mode, record and mark (Table 10-5). -/
def Entry.flags (e : Entry) : Byte :=
  byteOf (e.dir.code + (match e.retire with | .once => 0 | .repeated => 4) + (if e.record then 8 else 0)
    + e.mark.val * 16)

/-- The action byte and the parameters of an entry (Table 10-5). -/
def Entry.actionBytes (e : Entry) : List Byte :=
  match e.action with
  | none => bytesBE 7 0
  | some (l, act) => byteOf (act.code + l.val * 8) :: act.params

/-- The 14 bytes of a compare entry, unused fields 0 (R197). -/
def Entry.encode (e : Entry) : List Byte :=
  bytesBE 2 e.tag ++ intBytes e.position ++ [e.flags] ++ e.actionBytes

/-- The 9 bytes of a position word (R198). -/
def PosWord.encode (w : PosWord) : List Byte := byteOf w.axis.val :: (wordBytes w.turn ++ wordBytes w.value)

/-! ### Records (R199, Table 10-6) -/

/-- The kind code of a record (Table 7-1). -/
def Detail.kindCode : Detail → Byte
  | .capture _ _ _ => 1#8
  | .compare _ _ _ => 2#8
  | .index _ _ _ => 3#8
  | .axis _ _ _ => 4#8
  | .schedule _ _ _ => 5#8
  | .output _ _ _ _ => 6#8
  | .safeEntered _ _ => 6#8
  | .timeSync _ => 7#8
  | .gap _ => 8#8

/-- Source type, trigger input and accepted edge of a CAPTURE record (Table 10-6). -/
def CaptureSource.encode : CaptureSource → List Byte
  | .trig k e => [1#8, byteOf k.val, e.code]
  | .index => [2#8, 0#8, 0#8]
  | .mark => [3#8, 0#8, 0#8]
  | .axisLost => [4#8, 0#8, 0#8]
  | .schedDone => [5#8, 0#8, 0#8]
  | .host => [6#8, 0#8, 0#8]

/-- The eight detail bytes of a record (Table 10-6). -/
def Detail.encode : Detail → List Byte
  | .capture route source divider =>
    (match route with | some r => byteOf r.val | none => 0xFF#8) :: source.encode
      ++ bytesBE 2 divider ++ bytesBE 2 0
  | .compare tag dir fires => bytesBE 2 tag ++ [dir.code] ++ bytesBE 2 fires ++ bytesBE 3 0
  | .index slip corrected clean => intBytes slip ++ [flagByte corrected, flagByte clean] ++ bytesBE 2 0
  | .axis state reason errors => [state.code, reason.code] ++ bytesBE 2 errors ++ bytesBE 4 0
  | .schedule n reason count => [byteOf n.val, reason.code] ++ bytesBE 2 count ++ bytesBE 4 0
  | .output l reason drops preempts =>
    [byteOf l.val, reason.code] ++ bytesBE 2 drops ++ bytesBE 2 preempts ++ bytesBE 2 0
  | .safeEntered pendings runnings =>
    [0xFF#8, 4#8] ++ bytesBE 2 pendings ++ bytesBE 2 runnings ++ bytesBE 2 0
  | .timeSync old => bytesBE 6 old.toNat ++ bytesBE 2 0
  | .gap lost => bytesBE 4 lost ++ bytesBE 4 0

/-- The 20 + 9n bytes of a record (R199). -/
def Record.encode (r : Record) : List Byte :=
  wordBytes r.seq ++ [r.item.detail.kindCode, byteOf r.item.positions.length] ++ bytesBE 6 r.item.time.toNat
    ++ r.item.detail.encode ++ (r.item.positions.map PosWord.encode).flatten

/-- The encoded size of a record (R158, R199). -/
def Record.size (r : Record) : Nat := 20 + 9 * r.item.positions.length

/-! ### The frame (R169, R194) -/

/-- One bit of the CRC register: a shift, and the polynomial x^16 + x^12 + x^5 + 1 when a 1 leaves (R169). -/
def crcShift (c : Word16) : Word16 := if c.msb then (c <<< 1) ^^^ 0x1021#16 else c <<< 1

/-- One byte enters the CRC register, most significant bit first (R169). -/
def crcByte (c : Word16) (b : Byte) : Word16 :=
  let x := c ^^^ (b.setWidth 16 <<< 8)
  crcShift (crcShift (crcShift (crcShift (crcShift (crcShift (crcShift (crcShift x)))))))

/-- The CRC of the length byte and the body (R169). -/
def crc (bs : List Byte) : Word16 := bs.foldl crcByte 0xFFFF#16

/-- A frame as the part sends it (R194): start byte, length, body and CRC. -/
def encodeFrame (kind tag op status : Byte) (payload : List Byte) : List Byte :=
  let body := [kind, tag, op, status] ++ payload
  let covered := byteOf body.length :: body
  0xA5#8 :: covered ++ bytesBE 2 (crc covered).toNat

/-- The frame of a reply: kind REPLY, with RETRY on one re-sent from the cache (R176, R194). -/
def Reply.frame (r : Reply) : List Byte :=
  encodeFrame (if r.resent then 0x82#8 else 0x02#8) r.tag r.op r.status.code r.payload

/-- The frame of the HELLO report (R186, R202). -/
def Hello.frame (h : Hello) : List Byte :=
  encodeFrame 3#8 0#8 0x80#8 0#8
    ([h.reason.code] ++ bytesBE 2 Config.partCode ++ [byteOf Config.revision] ++ wordBytes h.next)

/-- The frame of a RECORD report (R151, R199). -/
def Record.frame (r : Record) : List Byte := encodeFrame 3#8 0#8 0x81#8 0#8 r.encode

end Sys2Proof.Machine
end

