-- ==== Sys2Proof/Machine/Delivery.lean ====
section
/-! DEFINITION. The Delivery Controller (spec/08_record_delivery.md): the offer and its handover, the ack timer,
acknowledgements, FETCH and the session reset. -/

namespace Sys2Proof.Machine

/-- The moment an ack timer that starts now expires (R152). -/
def ackExpiry (s : State) : Nat := s.now + s.delivery.ackTimeout * Config.ticksPerMilli

/-- The outstanding records: those from the oldest up to the send point (R148). -/
def outstanding (s : State) : Nat := s.queue.distance s.delivery.sendPoint

/-- The offer stands (R149). -/
def offerStands (s : State) : Bool :=
  decide (s.delivery.mode = .stream) && s.link.session.isSome && !s.delivery.stalled
    && decide (outstanding s < s.delivery.window) && decide (s.delivery.sendPoint ≠ s.queue.next)

/-- The record that the standing offer stands for: the one at the send point (R149). -/
def offered (s : State) : Option Record :=
  if offerStands s then s.queue.records[outstanding s]? else none

/-- The further of two sequence numbers from the oldest record (R150, R159). -/
def RecordQueue.further (q : RecordQueue) (x y : Word32) : Word32 :=
  if q.distance x < q.distance y then y else x

/-- The handover of the offered record (R150). -/
def handover (s : State) : State :=
  let d := s.delivery
  let point := d.sendPoint + 1#32
  s.setDelivery
    { d with
      ackTimer := if outstanding s = 0 then some (ackExpiry s) else d.ackTimer
      sendPoint := point
      highMark := s.queue.further d.highMark point }

/-- ACK_TIMEOUT (R153): at its expiry a running ack timer stops, the send point falls back to the oldest record,
and the eighth consecutive expiry stalls delivery. -/
def ackTimeout (s : State) : State :=
  match s.delivery.ackTimer with
  | none => s
  | some t =>
    let d := s.delivery
    (s.runTo t).setDelivery
      { d with
        sendPoint := s.queue.oldest
        ackTimer := none
        timeouts := d.timeouts + 1
        stalled := d.stalled || decide (Config.stallCount ≤ d.timeouts + 1) }

/-- A notice names a record delivered at least once (R155, R157). -/
def validNotice (s : State) (x : Word32) : Bool :=
  decide (s.queue.distance x < s.queue.distance s.delivery.highMark)

/-- The ack timer after a valid notice (R152): restarted in STREAM mode while records are outstanding. -/
def noticeTimer (s : State) (left : Nat) : Option Nat :=
  match s.delivery.mode with
  | .poll => none
  | .stream => if left = 0 then none else some (ackExpiry s)

/-- A rejected notice raises the ack-error count only (R156). -/
def rejectNotice (s : State) : State :=
  s.setDelivery { s.delivery with ackErrors := inc16 s.delivery.ackErrors }

/-- A valid ACK(x) (R155): the queue removes x and every record before it. -/
def takeAck (x : Word32) (s : State) : State :=
  let d := s.delivery
  let q := s.queue.remove (s.queue.distance x + 1) s.timebase.count
  let point := if s.queue.distance x < s.queue.distance d.sendPoint then d.sendPoint else x + 1#32
  (s.setQueue q).setDelivery
    { d with
      sendPoint := point
      ackTimer := noticeTimer s (q.distance point)
      timeouts := 0
      stalled := false }

/-- A valid NAK(x) (R157): the send point moves to x. -/
def takeNak (x : Word32) (s : State) : State :=
  s.setDelivery
    { s.delivery with
      sendPoint := x
      ackTimer := noticeTimer s (s.queue.distance x)
      timeouts := 0
      stalled := false }

/-- The delivery session reset (R162). -/
def deliverySessionReset (s : State) : State :=
  s.setDelivery
    { s.delivery with
      sendPoint := s.queue.oldest
      highMark := s.queue.oldest
      ackTimer := none
      timeouts := 0
      stalled := false }

/-- The records, counted from the oldest, whose encoded sizes stay within `budget` bytes (R158). -/
def fitting : Nat → List Record → Nat
  | _, [] => 0
  | budget, r :: rest => if r.size ≤ budget then fitting (budget - r.size) rest + 1 else 0

/-- The number of records a FETCH(n) returns (R158). -/
def fetchCount (n : Nat) (s : State) : Nat :=
  min n (min s.delivery.window
    (min s.queue.occupancy (fitting (Config.maxPayload - Config.fetchFixed) s.queue.records)))

end Sys2Proof.Machine
end

