-- ==== Sys2Proof/Machine/Operands.lean ====
section
/-! DEFINITION. The parameters of every request, read from its payload and checked over the whole of it (R192, R197,
R200 to R203): none is a parameter out of range (BAD_PARAM). A parser is given a payload of the length that
R196 requires. -/

namespace Sys2Proof.Machine

/-! ### Single fields -/

/-- A flag (R192). -/
def readFlag (b : Byte) : Option Bool :=
  if b = 0#8 then some false else if b = 1#8 then some true else none

/-- An axis number, 0–3. -/
def readAxis (b : Byte) : Option AxisId := if h : b.toNat < 4 then some ⟨b.toNat, h⟩ else none

/-- A line number, 0–7. -/
def readLine (b : Byte) : Option LineId := if h : b.toNat < 8 then some ⟨b.toNat, h⟩ else none

/-- A trigger input number, 0–5. -/
def readTrigger (b : Byte) : Option TriggerId := if h : b.toNat < 6 then some ⟨b.toNat, h⟩ else none

/-- A route number, 0–15. -/
def readRoute (b : Byte) : Option RouteId := if h : b.toNat < 16 then some ⟨b.toNat, h⟩ else none

/-- A level. -/
def readLevel (b : Byte) : Option Level := (readFlag b).map fun f => if f then .high else .low

/-- A number within its range. -/
def readRange (lo hi n : Nat) : Option Nat := if lo ≤ n ∧ n ≤ hi then some n else none

/-- A non-empty axis set: bits 4 to 7 clear (R192, R203). -/
def readAxisSet (b : Byte) : Option AxisSet :=
  if b.toNat = 0 ∨ 15 < b.toNat then none else some (BitVec.ofNat 4 b.toNat)

/-- Count mode. -/
def readCountMode (b : Byte) : Option CountMode :=
  match b.toNat with
  | 0 => some .quadX1
  | 1 => some .quadX2
  | 2 => some .quadX4
  | 3 => some .stepDir
  | _ => none

/-- Axis mode. -/
def readAxisMode (b : Byte) : Option AxisMode := (readFlag b).map fun f => if f then .rotary else .linear

/-- Slip policy. -/
def readSlipPolicy (b : Byte) : Option SlipPolicy := (readFlag b).map fun f => if f then .reportOnly else .correct

/-- Index reporting. -/
def readReporting (b : Byte) : Option IndexReporting :=
  match b.toNat with
  | 0 => some .off
  | 1 => some .slipOnly
  | 2 => some .all
  | _ => none

/-- Homing source. -/
def readHomingSource (b : Byte) : Option HomingSource :=
  match b.toNat with
  | 0 => some .index
  | 1 => some .trigger
  | 2 => some .triggerThenIndex
  | _ => none

/-- The homing input k: checked for the trigger sources; beside source INDEX the byte is unused (R200, R203), and the
axis keeps the input it holds (notes/assumptions/9.md). -/
def readHomingInput (source : HomingSource) (held : TriggerId) (k : Byte) : Option TriggerId :=
  match source with
  | .index => some held
  | .trigger => readTrigger k
  | .triggerThenIndex => readTrigger k

/-- Direction qualifier. -/
def readQualifier (b : Byte) : Option DirQualifier :=
  match b.toNat with
  | 0 => some .any
  | 1 => some .up
  | 2 => some .down
  | _ => none

/-- Conflict policy. -/
def readPolicy (b : Byte) : Option Policy :=
  match b.toNat with
  | 0 => some .preempt
  | 1 => some .queue
  | 2 => some .drop
  | _ => none

/-- Trigger edge selection. -/
def readSelection (b : Byte) : Option EdgeSelection :=
  match b.toNat with
  | 0 => some .off
  | 1 => some .rise
  | 2 => some .fall
  | 3 => some .both
  | _ => none

/-- Route edge. -/
def readRouteEdge (b : Byte) : Option RouteEdge :=
  match b.toNat with
  | 1 => some .rise
  | 2 => some .fall
  | 3 => some .any
  | _ => none

/-- SYNC arm edge. -/
def readEdge (b : Byte) : Option Edge :=
  match b.toNat with
  | 1 => some .rise
  | 2 => some .fall
  | _ => none

/-- Delivery mode. -/
def readMode (b : Byte) : Option DeliveryMode := (readFlag b).map fun f => if f then .poll else .stream

/-- Loss action. -/
def readLoss (b : Byte) : Option LossAction :=
  match b.toNat with
  | 0 => some .none
  | 1 => some .safeOutputs
  | 2 => some .safeAndStop
  | _ => none

/-- Baud rate. -/
def readBaud (b : Byte) : Option Baud :=
  match b.toNat with
  | 0 => some .b115200
  | 1 => some .b230400
  | 2 => some .b460800
  | 3 => some .b921600
  | 4 => some .b1843200
  | 5 => some .b3000000
  | _ => none

/-- An output action other than NONE with its parameters, each checked where the action uses it (R29, R89). -/
def readAction (kind width count period : Nat) : Option OutAction :=
  match kind with
  | 1 => if width = 0 then none else some (.timed (.pulse width))
  | 2 => some .set
  | 3 => some .clear
  | 4 => some .toggle
  | 5 =>
    if width = 0 ∨ count < 2 ∨ period < 2 ∨ period ≤ width then none
    else some (.timed (.train width count period))
  | _ => none

/-- A position in range for an axis: every one for LINEAR, 0 to CPR−1 for ROTARY (R29, R64). -/
def Axis.inRange (a : Axis) (p : Int) : Bool :=
  match a.position.mode with
  | .linear => true
  | .rotary => decide (0 ≤ p ∧ p < (a.config.cpr : Int))

/-! ### Compare entries (R29, R197) -/

/-- The direction bits of an entry; code 0 names no value. -/
def readEntryDir (code : Nat) : Option EntryDir :=
  match code with
  | 1 => some .up
  | 2 => some .down
  | 3 => some .either
  | _ => none

/-- The output action of an entry: kind 0 is NONE, and kinds 6 and 7 name no value. -/
def readEntryAction (actionByte : Byte) (width count period : Nat) : Option (Option (LineId × OutAction)) :=
  if actionByte.toNat % 8 = 0 then some none
  else (readAction (actionByte.toNat % 8) width count period).map fun act =>
    some (Fin.ofNat 8 (actionByte.toNat / 8), act)

/-- An entry from its 14 bytes, checked against its axis (R29): armed no, fire count 0 (R30). -/
def readEntry (a : Axis) (bs : List Byte) : Option Entry :=
  match bs with
  | [t0, t1, p0, p1, p2, p3, flags, action, w0, w1, c0, c1, d0, d1] =>
    let tag := numBE [t0, t1]
    let position := (wordBE [p0, p1, p2, p3]).toInt
    if tag = 0 ∨ a.inRange position = false then none
    else do
      let dir ← readEntryDir (flags.toNat % 4)
      let act ← readEntryAction action (numBE [w0, w1]) (numBE [c0, c1]) (numBE [d0, d1])
      some
        { tag := tag
          position := position
          dir := dir
          retire := if flags.getLsbD 2 then .repeated else .once
          action := act
          record := flags.getLsbD 3
          mark := Fin.ofNat 4 (flags.toNat / 16)
          armed := false
          fires := 0 }
  | _ => none

/-- `count` entries from their bytes, in batch order. -/
def readEntries (a : Axis) : Nat → List Byte → Option (List Entry)
  | 0, _ => some []
  | k + 1, bs => do
    let e ← readEntry a (bs.take 14)
    let es ← readEntries a k (bs.drop 14)
    some (e :: es)

/-! ### Whole payloads -/

/-- A request without parameters. -/
def readNothing (_ : State) (_ : List Byte) : Option Unit := some ()

/-- One byte naming an axis. -/
def readAxisOnly (_ : State) : List Byte → Option AxisId
  | [n] => readAxis n
  | _ => none

/-- One byte naming a line. -/
def readLineOnly (_ : State) : List Byte → Option LineId
  | [l] => readLine l
  | _ => none

/-- One byte naming a trigger input. -/
def readTriggerOnly (_ : State) : List Byte → Option TriggerId
  | [k] => readTrigger k
  | _ => none

/-- One byte naming a route. -/
def readRouteOnly (_ : State) : List Byte → Option RouteId
  | [r] => readRoute r
  | _ => none

/-- PING: any bytes (R203). -/
def readAnyBytes (_ : State) (bs : List Byte) : Option (List Byte) := some bs

/-- ATTACH (R178): keepalive 0 or 10–60,000 ms, and the loss action. -/
def readAttach (_ : State) : List Byte → Option Session
  | [k0, k1, loss] => do
    let keepalive := numBE [k0, k1]
    let action ← readLoss loss
    if keepalive = 0 ∨ (10 ≤ keepalive ∧ keepalive ≤ 60000) then some ⟨keepalive, action⟩ else none
  | _ => none

/-- LINK_CONFIG (R167). -/
def readLinkConfig (_ : State) : List Byte → Option Baud
  | [r] => readBaud r
  | _ => none

/-- LINK_STATS (R188). -/
def readLinkStats (_ : State) : List Byte → Option Bool
  | [f] => readFlag f
  | _ => none

/-- AXIS_CONFIG (R24): the axis, its configuration, and the axis mode. -/
def readAxisConfig (_ : State) : List Byte → Option (AxisId × AxisConfig × AxisMode)
  | [n, cm, inv, f, am, c0, c1, c2, c3, tol, s0, s1, pol, rep, e] => do
    let axis ← readAxis n
    let countMode ← readCountMode cm
    let invert ← readFlag inv
    let mode ← readAxisMode am
    let cpr ← readRange 4 16777216 (numBE [c0, c1, c2, c3])
    let policy ← readSlipPolicy pol
    let reporting ← readReporting rep
    some (axis,
      { countMode := countMode
        invert := invert
        filter := f.toNat
        cpr := cpr
        tolerance := tol.toNat
        slipLimit := numBE [s0, s1]
        slipPolicy := policy
        reporting := reporting
        errorLimit := e.toNat }, mode)
  | _ => none

/-- AXIS_SET_POSITION (R23): the turn of a LINEAR axis is unused; a ROTARY angle is 0 to CPR−1. -/
def readSetPosition (s : State) : List Byte → Option (AxisId × Position)
  | [n, t0, t1, t2, t3, v0, v1, v2, v3] => do
    let axis ← readAxis n
    let value := (wordBE [v0, v1, v2, v3]).toInt
    match (s.axis axis).position.mode with
    | .linear => some (axis, .linear value)
    | .rotary =>
      if (s.axis axis).inRange value then some (axis, .rotary (wordBE [t0, t1, t2, t3]) value.toNat) else none
  | _ => none

/-- HOME (R19). -/
def readHome (s : State) : List Byte → Option (AxisId × HomingParams)
  | [n, src, k, q, p0, p1, p2, p3] => do
    let axis ← readAxis n
    let source ← readHomingSource src
    let input ← readHomingInput source (s.axis axis).homing.input k
    let qualifier ← readQualifier q
    some (axis, ⟨source, input, qualifier, wordBE [p0, p1, p2, p3]⟩)
  | _ => none

/-- STAGE_ADD (R34): a count of 1–16 and its entries. -/
def readStageAdd (s : State) : List Byte → Option (AxisId × List Entry)
  | n :: c :: rest => do
    let axis ← readAxis n
    let count ← readRange 1 16 c.toNat
    let entries ← readEntries (s.axis axis) count rest
    some (axis, entries)
  | _ => none

/-- STAGE_REMOVE (R35): a tag of 1–65,535. -/
def readStageRemove (_ : State) : List Byte → Option (AxisId × Nat)
  | [n, t0, t1] => do
    let axis ← readAxis n
    let tag ← readRange 1 65535 (numBE [t0, t1])
    some (axis, tag)
  | _ => none

/-- SCHED_CONFIG (R72): H of 1–65,535. -/
def readSchedConfig (_ : State) : List Byte → Option (AxisId × Nat)
  | [n, h0, h1] => do
    let axis ← readAxis n
    let h ← readRange 1 65535 (numBE [h0, h1])
    some (axis, h)
  | _ => none

/-- The mode of a COMMIT request with what it uses (R64). -/
inductive CommitMode where
  | now
  | atTrigger
  | atPosition (p : Int)
  deriving DecidableEq, Repr

/-- COMMIT (R64): the position is used, and checked, in mode AT_POSITION only. -/
def readCommit (s : State) : List Byte → Option (AxisId × CommitMode × Bool)
  | [n, m, p0, p1, p2, p3, r] => do
    let axis ← readAxis n
    let run ← readFlag r
    let p := (wordBE [p0, p1, p2, p3]).toInt
    match m.toNat with
    | 1 => some (axis, .now, run)
    | 2 => some (axis, .atTrigger, run)
    | 3 => if (s.axis axis).inRange p then some (axis, .atPosition p, run) else none
    | _ => none
  | _ => none

/-- ENTRY_READ (R39): the list (true for STAGING) and a tag of 1–65,535. -/
def readEntryRead (_ : State) : List Byte → Option (AxisId × Bool × Nat)
  | [n, l, t0, t1] => do
    let axis ← readAxis n
    let staging ← readFlag l
    let tag ← readRange 1 65535 (numBE [t0, t1])
    some (axis, staging, tag)
  | _ => none

/-- OUTPUT_CONFIG (R91): idle level, safe level, policy and report flag. -/
def readOutputConfig (_ : State) : List Byte → Option (LineId × Level × Level × Policy × Bool)
  | [l, i, sf, p, r] => do
    let line ← readLine l
    let idle ← readLevel i
    let safeLevel ← readLevel sf
    let policy ← readPolicy p
    let report ← readFlag r
    some (line, idle, safeLevel, policy, report)
  | _ => none

/-- OUTPUT_ACTION (R89). -/
def readOutputAction (_ : State) : List Byte → Option (LineId × OutAction)
  | [l, k, w0, w1, c0, c1, p0, p1] => do
    let line ← readLine l
    let act ← readAction k.toNat (numBE [w0, w1]) (numBE [c0, c1]) (numBE [p0, p1])
    some (line, act)
  | _ => none

/-- TRIGGER_CONFIG (R103): selection, filter and holdoff. -/
def readTriggerConfig (_ : State) : List Byte → Option (TriggerId × EdgeSelection × Nat × Nat)
  | [k, e, f, h0, h1] => do
    let input ← readTrigger k
    let selection ← readSelection e
    some (input, selection, f.toNat, numBE [h0, h1])
  | _ => none

/-- The source of a ROUTE_SET (R112, Table 5-3), parameters checked by its type byte. -/
def readSource (type b1 b2 : Byte) : Option RouteSource :=
  match type.toNat with
  | 1 => do
    let k ← readTrigger b1
    let edge ← readRouteEdge b2
    some (.trig k edge)
  | 2 => (readAxis b1).map .index
  | 3 => do
    let n ← readAxis b1
    let m ← readRange 1 3 b2.toNat
    some (.mark n (Fin.ofNat 4 m))
  | 4 => (readAxis b1).map .axisLost
  | 5 => (readAxis b1).map .schedDone
  | _ => none

/-- The action of a ROUTE_SET (R112, Table 5-4), parameters checked by its type byte. -/
def readRouteAction (type b1 b2 : Byte) (width count period : Nat) : Option RouteAction :=
  match type.toNat with
  | 1 => (readAxisSet b1).map .capture
  | 2 => (readAxis b1).map .start
  | 3 => (readAxis b1).map .stop
  | 4 => (readAxis b1).map .commit
  | 5 => do
    let line ← readLine b1
    let act ← readAction b2.toNat width count period
    some (.output line act)
  | _ => none

/-- ROUTE_SET (R112): the whole new route, its divider counter and statistics 0. -/
def readRouteSet (_ : State) : List Byte → Option (RouteId × Route)
  | [r, en, s0, s1, s2, n0, n1, a0, a1, a2, w0, w1, c0, c1, p0, p1] => do
    let route ← readRoute r
    let enable ← readFlag en
    let source ← readSource s0 s1 s2
    let divider ← readRange 1 256 (numBE [n0, n1])
    let action ← readRouteAction a0 a1 a2 (numBE [w0, w1]) (numBE [c0, c1]) (numBE [p0, p1])
    some (route,
      { enable := enable
        source := some source
        divider := divider
        counter := 0
        action := some action
        matched := 0
        acted := 0
        shadowed := 0 })
  | _ => none

/-- CAPTURE_NOW (R135): a non-empty axis set. -/
def readCaptureNow (_ : State) : List Byte → Option AxisSet
  | [b] => readAxisSet b
  | _ => none

/-- RECORD_CONFIG (R133). -/
def readRecordConfig (_ : State) : List Byte → Option KindEnables
  | [a, sc, o, t] => do
    let axis ← readFlag a
    let schedule ← readFlag sc
    let output ← readFlag o
    let timeSync ← readFlag t
    some ⟨axis, schedule, output, timeSync⟩
  | _ => none

/-- DELIVERY_CONFIG (R161): mode, W of 1–16, ack timeout of 10–10,000 ms. -/
def readDeliveryConfig (_ : State) : List Byte → Option (DeliveryMode × Nat × Nat)
  | [m, w, t0, t1] => do
    let mode ← readMode m
    let window ← readRange 1 16 w.toNat
    let timeout ← readRange 10 10000 (numBE [t0, t1])
    some (mode, window, timeout)
  | _ => none

/-- FETCH (R158): n of 1–16. -/
def readFetch (_ : State) : List Byte → Option Nat
  | [n] => readRange 1 16 n.toNat
  | _ => none

/-- TIME_SET (R121): six bytes, every value in range. -/
def readTimeSet (_ : State) : List Byte → Option Ticks
  | [b0, b1, b2, b3, b4, b5] => some (BitVec.ofNat 48 (numBE [b0, b1, b2, b3, b4, b5]))
  | _ => none

/-- SYNC_ARM (R123): the value and the edge. -/
def readSyncArm (_ : State) : List Byte → Option SyncArm
  | [b0, b1, b2, b3, b4, b5, e] =>
    (readEdge e).map fun edge => ⟨BitVec.ofNat 48 (numBE [b0, b1, b2, b3, b4, b5]), edge⟩
  | _ => none

end Sys2Proof.Machine
end

