-- ==== Sys2Proof/Machine/Flags.lean ====
section
/-! DEFINITION. The armed flags of the compare entries: distance and hysteresis, the full evaluation, re-arming at
a count, and the condition on which an entry fires (spec/02_compare_entries_and_the_entry_pool.md, 2.5 and 2.6). -/

namespace Sys2Proof.Machine

/-- The distance in counts between an axis and an entry's position (R40). -/
def Axis.distance (a : Axis) (p : Int) : Nat :=
  match a.position with
  | .linear x => (x - p).natAbs
  | .rotary _ angle =>
    let d := ((angle : Int) - p).natAbs
    min d (a.config.cpr - d)

/-- The full evaluation of arming (R40): an entry is armed when its distance is H or more. -/
def armAll (a : Axis) (h : Nat) (es : List Entry) : List Entry :=
  es.map fun e => { e with armed := decide (h ≤ a.distance e.position) }

/-- Re-arming at a count (R41): a disarmed entry at distance H or more becomes armed, an armed one stays so. -/
def rearm (a : Axis) (h : Nat) (es : List Entry) : List Entry :=
  es.map fun e => { e with armed := e.armed || decide (h ≤ a.distance e.position) }

/-- The step directions an entry accepts (R45). -/
def EntryDir.accepts : EntryDir → Dir → Bool
  | .up, .up => true
  | .up, .down => false
  | .down, .up => false
  | .down, .down => true
  | .either, _ => true

/-- An entry of a RUNNING schedule fires at a count in this direction (R45): its axis is REFERENCED, it is armed,
its position is the one the count has just reached, and it accepts the direction. -/
def Axis.fires (a : Axis) (dir : Dir) (e : Entry) : Bool :=
  decide (a.ref = .referenced) && e.armed && decide (e.position = a.position.value) && e.dir.accepts dir

end Sys2Proof.Machine
end

