-- ==== Sys2Proof/Machine/Schedule.lean ====
section
/-! DEFINITION. The schedules (spec/03_schedules_and_commit.md): start, stop, departure, jump, commit and completion,
as operations that requests, routes and axes share. -/

namespace Sys2Proof.Machine

/-- What happened that the Route Table takes as a source event (Table 5-3). -/
inductive EventSource where
  | trig (k : TriggerId) (edge : Edge)
  | index (n : AxisId)
  | mark (n : AxisId) (m : Fin 4)
  | axisLost (n : AxisId)
  | schedDone (n : AxisId)
  deriving DecidableEq, Repr

/-- A source event with its time (Table 5-3). -/
structure SourceEvent where
  source : EventSource
  time : Ticks
  deriving DecidableEq, Repr

/-- A SCHEDULE record (R74, R131): the active list's entry count after the event, no position word. -/
def schedRecord (n : AxisId) (reason : SchedReason) (s : State) : State :=
  s.produceIf s.queue.enables.schedule
    ⟨.schedule n reason (s.sched n).active.length, s.timebase.count, []⟩

/-- The schedule enters RUNNING with the full evaluation of arming (R56, R40). -/
def runSchedule (n : AxisId) (s : State) : State :=
  s.setSched n
    { s.sched n with state := .running, active := armAll (s.axis n) (s.sched n).h (s.sched n).active }

/-- A start (R56, R57): nothing unless the schedule is not RUNNING, its list non-empty and its axis REFERENCED. -/
def startSchedule (n : AxisId) (s : State) : State :=
  if (s.sched n).state ≠ .running ∧ (s.sched n).active ≠ [] ∧ (s.axis n).ref = .referenced then runSchedule n s
  else s

/-- A stop (R58): RUNNING or HELD becomes STOPPED; list, flags and pending commit are kept. -/
def stopSchedule (n : AxisId) (s : State) : State := s.setSched n { s.sched n with state := .stopped }

/-- The pending commit of an axis is cancelled with its record (R70, R71). -/
def cancelCommit (n : AxisId) (s : State) : State :=
  schedRecord n .commitCancelled (s.setSched n { s.sched n with commit := none })

/-- The schedule's part of a departure (R59): a RUNNING schedule becomes HELD with a HELD record. -/
def holdSchedule (n : AxisId) (s : State) : State :=
  if (s.sched n).state = .running then schedRecord n .held (s.setSched n { s.sched n with state := .held }) else s

/-- A departure notice (R59, R70): HELD first, then the cancellation of a pending AT_POSITION commit. -/
def departure (n : AxisId) (s : State) : State :=
  let held := holdSchedule n s
  match (held.sched n).commit with
  | some (.atPosition _ _) => cancelCommit n held
  | some (.atTrigger _) => held
  | none => held

/-- A jump notice (R42, R43): a RUNNING schedule re-evaluates every armed flag and fires nothing. -/
def jump (n : AxisId) (s : State) : State :=
  if (s.sched n).state = .running then
    s.setSched n { s.sched n with active := armAll (s.axis n) (s.sched n).h (s.sched n).active }
  else s

/-- The schedule state after a commit, before a completion (Table 3-3). -/
def stateAfterCommit (old : SchedState) (new : List Entry) (run referenced : Bool) : SchedState :=
  match old with
  | .running => .running
  | .held => .held
  | .stopped => if run && referenced && !new.isEmpty then .running else .stopped

/-- A commit takes effect (R67, steps 1 to 5, and Table 3-3 but for the completion): the old entries' slots
return, the staging list becomes the active list fully evaluated, and a COMMITTED record is produced. -/
def installList (n : AxisId) (run : Bool) (s : State) : State :=
  let c := s.sched n
  let new := armAll (s.axis n) c.h c.staging
  schedRecord n .committed
    ((s.setFree (s.free + c.active.length)).setSched n
      { c with
        active := new
        staging := []
        commit := none
        state := stateAfterCommit c.state new run (decide ((s.axis n).ref = .referenced)) })

/-- The completion of a RUNNING schedule with an empty list (R61): STOPPED, a DONE record, and SCHED_DONE(n). -/
def completeIfEmpty (n : AxisId) (s : State) : State × List SourceEvent :=
  if (s.sched n).state = .running ∧ (s.sched n).active = [] then
    (schedRecord n .done (stopSchedule n s), [⟨.schedDone n, s.timebase.count⟩])
  else (s, [])

/-- A commit taken outside the end of a count (R67): it takes effect and may complete the schedule. -/
def takeCommit (n : AxisId) (run : Bool) (s : State) : State × List SourceEvent :=
  completeIfEmpty n (installList n run s)

/-- The schedule actions of a route (Table 5-4). -/
inductive SchedAct where
  | start
  | stop
  | commit
  deriving DecidableEq, Repr

/-- A COMMIT route action (R65): only a pending AT_TRIGGER commit takes effect. -/
def routeCommit (n : AxisId) (s : State) : State × List SourceEvent :=
  match (s.sched n).commit with
  | some (.atTrigger run) => takeCommit n run s
  | some (.atPosition _ _) => (s, [])
  | none => (s, [])

/-- A schedule takes a route's action (R57, R58, R65), with the source events it sends. -/
def takeSchedAct (n : AxisId) (act : SchedAct) (s : State) : State × List SourceEvent :=
  match act with
  | .start => (startSchedule n s, [])
  | .stop => (stopSchedule n s, [])
  | .commit => routeCommit n s

/-- Item 1 of the end of a count (R62, R66): an AT_POSITION commit whose position the count has reached. -/
def reachCommit (n : AxisId) (s : State) : State :=
  match (s.sched n).commit with
  | some (.atPosition p run) => if (s.axis n).position.value = p then installList n run s else s
  | some (.atTrigger _) => s
  | none => s

/-- Every RUNNING or HELD schedule becomes STOPPED (R60, SAFE_AND_STOP). -/
def stopAll (s : State) : State := { s with scheds := s.scheds.map fun c => { c with state := .stopped } }

end Sys2Proof.Machine
end

