-- ==== Sys2Proof/Machine/Route.lean ====
section
/-! DEFINITION. The Route Table (spec/05_trigger_inputs_and_the_route_table.md, 5.4 and 5.5): matching, dividers,
shadowing and the issue of actions, and the chain of source events that one event can cause. -/

namespace Sys2Proof.Machine

/-- A route's TRIG edge admits an accepted edge (Table 5-3). -/
def RouteEdge.admits : RouteEdge → Edge → Bool
  | .rise, .rise => true
  | .rise, .fall => false
  | .fall, .rise => false
  | .fall, .fall => true
  | .any, _ => true

/-- A route's source matches a source event (Table 5-3). -/
def RouteSource.matchesEvent : RouteSource → EventSource → Bool
  | .trig k e, .trig k' e' => decide (k = k') && e.admits e'
  | .index n, .index n' => decide (n = n')
  | .mark n m, .mark n' m' => decide (n = n') && decide (m = m')
  | .axisLost n, .axisLost n' => decide (n = n')
  | .schedDone n, .schedDone n' => decide (n = n')
  | _, _ => false

/-- The route is enabled and its source matches (R106, step 2). -/
def Route.hit (r : Route) (e : EventSource) : Bool :=
  r.enable && match r.source with
    | some src => src.matchesEvent e
    | none => false

/-- The route acts on the event: it matches and its divider counter reaches N (R107). -/
def Route.acts (r : Route) (e : EventSource) : Bool := r.hit e && decide (r.counter + 1 = r.divider)

/-- The schedule that a route's START, STOP or COMMIT reaches (R110). -/
def RouteAction.target : RouteAction → Option AxisId
  | .start n => some n
  | .stop n => some n
  | .commit n => some n
  | .capture _ => none
  | .output _ _ => none

/-- The schedule a route's action reaches, if any. -/
def Route.target (r : Route) : Option AxisId := r.action.bind RouteAction.target

/-- A route acting on the event is shadowed by a lower-numbered one that reaches the same schedule (R110). -/
def shadowedOn (routes : Vector Route 16) (e : EventSource) (r : RouteId) : Bool :=
  match routes[r].target with
  | none => false
  | some n => Config.allRoutes.any fun q =>
      decide (q < r) && routes[q].acts e && decide (routes[q].target = some n)

/-- A route after the event (R107, R110): matched, divider counter, acted and shadowed counts. -/
def Route.count (r : Route) (e : EventSource) (shadowed : Bool) : Route :=
  if r.hit e then
    if r.counter + 1 = r.divider then
      if shadowed then { r with matched := inc16 r.matched, counter := 0, shadowed := inc16 r.shadowed }
      else { r with matched := inc16 r.matched, counter := 0, acted := inc16 r.acted }
    else { r with matched := inc16 r.matched, counter := r.counter + 1 }
  else r

/-- Every route after the event (R106, steps 2 and 3). -/
def countRoutes (routes : Vector Route 16) (e : EventSource) : Vector Route 16 :=
  Vector.ofFn fun r => routes[r].count e (shadowedOn routes e r)

/-- The routes whose action is issued, in ascending number (R106, step 4; R110). -/
def issuing (routes : Vector Route 16) (e : EventSource) : List RouteId :=
  Config.allRoutes.filter fun r => routes[r].acts e && !shadowedOn routes e r

/-- The source named in a CAPTURE record (R108). -/
def EventSource.captureSource : EventSource → CaptureSource
  | .trig k e => .trig k e
  | .index _ => .index
  | .mark _ _ => .mark
  | .axisLost _ => .axisLost
  | .schedDone _ => .schedDone

/-- The action of an acting route that the Route Table has still to issue, with its source event and the positions
read when that was taken (R106, step 1). -/
structure Issue where
  event : SourceEvent
  axes : Vector Axis 4
  route : RouteId
  deriving DecidableEq, Repr

/-- Work in progress within one command: the state, the source events sent and not yet taken, the actions still to be
issued on the one being taken, and, while the schedule of one axis evaluates a count, the route actions that wait for
that schedule: those issued on marks of the count (R62, item 3), and the others, which it takes after the count
(R63, R109). -/
structure Work where
  s : State
  events : List SourceEvent
  issues : List Issue
  onMark : List SchedAct
  after : List SchedAct
  deriving DecidableEq, Repr

/-- No actions to issue and none that wait. -/
def Work.of (s : State) (events : List SourceEvent) : Work := ⟨s, events, [], [], []⟩

/-- A route action reaches the schedule of axis n (R109): it is taken as it arrives, unless that schedule is
evaluating a count (`busy`); then it waits, as an action on a mark of the count or as one taken after it. -/
def reachSchedule (busy : Option AxisId) (e : SourceEvent) (n : AxisId) (act : SchedAct) (w : Work) : Work :=
  if busy = some n then
    match e.source with
    | .mark _ _ => { w with onMark := w.onMark ++ [act] }
    | .trig _ _ => { w with after := w.after ++ [act] }
    | .index _ => { w with after := w.after ++ [act] }
    | .axisLost _ => { w with after := w.after ++ [act] }
    | .schedDone _ => { w with after := w.after ++ [act] }
  else { w with s := (takeSchedAct n act w.s).1, events := w.events ++ (takeSchedAct n act w.s).2 }

/-- The issue of one acting route's action (R106, step 4), with the positions read at step 1. -/
def issueRoute (busy : Option AxisId) (i : Issue) (w : Work) : Work :=
  match (w.s.route i.route).action with
  | some (.capture set) =>
    { w with
      s := w.s.produce
        ⟨.capture (some i.route) i.event.source.captureSource (w.s.route i.route).divider, i.event.time,
          posWords i.axes set⟩ }
  | some (.start n) => reachSchedule busy i.event n .start w
  | some (.stop n) => reachSchedule busy i.event n .stop w
  | some (.commit n) => reachSchedule busy i.event n .commit w
  | some (.output l act) => { w with s := issueAction l act w.s }
  | none => w

/-- The Route Table takes a source event (R106, steps 1 to 3): the positions are read, every route counts, and the
actions of the acting routes stand to be issued in ascending route number. -/
def takeEvent (e : SourceEvent) (w : Work) : Work :=
  { w with
    s := { w.s with routes := countRoutes w.s.routes e.source }
    issues := (issuing w.s.routes e.source).map fun r => ⟨e, w.s.axes, r⟩ }

/-- One step of the Route Table (R106): the next action is issued, or, when the event before has been taken whole, the
next event is taken. The records of different producers that this puts in order, and the order of an action's
consequences, are the model's choice where R139 leaves them open (DESIGN CHOICE, notes/assumptions/19.md). -/
def routeStep (busy : Option AxisId) (w : Work) : Work :=
  match w.issues, w.events with
  | i :: rest, _ => issueRoute busy i { w with issues := rest }
  | [], e :: rest => takeEvent e { w with events := rest }
  | [], [] => w

/-- The Route Table makes so many steps. -/
def routeSteps (busy : Option AxisId) : Nat → Work → Work
  | 0, w => w
  | k + 1, w => routeSteps busy k (routeStep busy w)

/-- A pending commit is AT_TRIGGER. -/
def Schedule.awaitsTrigger (c : Schedule) : Bool :=
  match c.commit with
  | some (.atTrigger _) => true
  | some (.atPosition _ _) => false
  | none => false

/-- The number of axes whose pending commit is AT_TRIGGER: each can still cause one SCHED_DONE through a route. -/
def triggerCommits (s : State) : Nat := Config.allAxes.countP fun n => (s.sched n).awaitsTrigger

/-- Steps that are enough for everything that waits: a source event gives at most sixteen actions, and one that an
action causes uses up a pending AT_TRIGGER commit. -/
def Work.bound (w : Work) : Nat := w.issues.length + 17 * (w.events.length + triggerCommits w.s)

/-- The Route Table takes every waiting source event whole, and every one they cause (R106). -/
def settle (busy : Option AxisId) (w : Work) : Work := routeSteps busy w.bound w

/-- Source events reach the Route Table while no schedule evaluates a count. -/
def sendEvents (events : List SourceEvent) (s : State) : State := (settle none (Work.of s events)).s

/-- One source event reaches the Route Table. -/
def sendEvent (source : EventSource) (time : Ticks) (s : State) : State := sendEvents [⟨source, time⟩] s

end Sys2Proof.Machine
end

