-- ==== Sys2Proof/Machine/Compare.lean ====
section
/-! DEFINITION. The evaluation of a count notice (spec/02_compare_entries_and_the_entry_pool.md, 2.6, and
03_schedules_and_commit.md, 3.3): firing, re-arming and the end of the count. -/

namespace Sys2Proof.Machine

/-- The COMPARE record of a firing (R49). -/
def compareItem (n : AxisId) (dir : Dir) (e : Entry) (s : State) : Item :=
  ⟨.compare e.tag dir (inc16 e.fires), s.timebase.count, [(s.axis n).posWord n]⟩

/-- Steps 1 and 2 of a firing (R47): the output action, then the COMPARE record. -/
def fireActions (n : AxisId) (dir : Dir) (e : Entry) (s : State) : State :=
  let acted := match e.action with
    | some (l, act) => issueAction l act s
    | none => s
  acted.produceIf e.record (compareItem n dir e acted)

/-- The active list after an entry has fired (R51, R52): a REPEAT entry is counted and disarmed at its place,
a ONCE entry leaves. -/
def afterFiring (e : Entry) (es : List Entry) : List Entry :=
  match e.retire with
  | .once => es.eraseP fun x => x.tag = e.tag
  | .repeated =>
    es.map fun x => if x.tag = e.tag then { x with fires := inc16 x.fires, armed := false } else x

/-- Steps 4 and 5 of a firing (R47, R51, R52): the counts, the armed flag, and the slot of a ONCE entry. -/
def finishFiring (n : AxisId) (e : Entry) (s : State) : State :=
  let c := s.sched n
  let left := afterFiring e c.active
  (s.setFree (s.free + (c.active.length - left.length))).setSched n
    { c with active := left, total := c.total + 1#32 }

/-- One entry fires whole (R47); its mark, if any, is sent to the Route Table as step 3. -/
def fireEntry (n : AxisId) (dir : Dir) (e : Entry) (w : Work) : Work :=
  let acted := fireActions n dir e w.s
  let events := if e.mark = 0 then w.events else w.events ++ [⟨.mark n e.mark, acted.timebase.count⟩]
  { w with s := finishFiring n e acted, events := events }

/-- The firing entries fire one after another in list order (R46, step 2). `takes` says how many steps on the waiting
marks the Route Table makes after each of them, so that every action issued on a mark may stand before or after a later
firing (R50). What is left of the marks, their CAPTURE records included, it takes before the re-arming and before the
end of the count: no other block sees that order but the Record Queue, where R139 leaves it open (DESIGN CHOICE,
notes/assumptions/19.md). -/
def fireAll (n : AxisId) (dir : Dir) : List Entry → List Nat → Work → Work
  | [], _, w => settle (some n) w
  | e :: es, [], w => fireAll n dir es [] (settle (some n) (fireEntry n dir e w))
  | e :: es, k :: ks, w => fireAll n dir es ks (routeSteps (some n) k (fireEntry n dir e w))

/-- Re-arming, step 3 of the evaluation (R41, R46). -/
def rearmSchedule (n : AxisId) (s : State) : State :=
  s.setSched n { s.sched n with active := rearm (s.axis n) (s.sched n).h (s.sched n).active }

/-- Item 2 of the end of a count (R61, R62): an empty RUNNING schedule completes. The Route Table takes SCHED_DONE
before item 3, so that a CAPTURE on it stands before the records of item 3 (DESIGN CHOICE, notes/assumptions/19.md). -/
def completeAtCount (n : AxisId) (w : Work) : Work :=
  settle (some n)
    { w with s := (completeIfEmpty n w.s).1, events := w.events ++ (completeIfEmpty n w.s).2 }

/-- An action that waited for the schedule of axis n is taken, and the source events it causes after it. -/
def takeWaiting (busy : Option AxisId) (n : AxisId) (w : Work) (act : SchedAct) : Work :=
  settle busy { w with s := (takeSchedAct n act w.s).1, events := w.events ++ (takeSchedAct n act w.s).2 }

/-- The end of a count of a RUNNING schedule (R62), and after it the actions of R63 and R109. A STOP on SCHED_DONE(n)
is taken as R63 says, after item 3, and so stops a schedule that a COMMIT on a mark has started there, although R58
expects it to find the schedule STOPPED (DEDUCED, notes/assumptions/20.md). -/
def endOfCount (n : AxisId) (w : Work) : State :=
  let completed := completeAtCount n { w with s := reachCommit n w.s }
  let marked := completed.onMark.foldl (takeWaiting (some n) n) completed
  (marked.after.foldl (takeWaiting none n) marked).s

/-- The Compare Engine takes a count notice (R46): a RUNNING schedule evaluates it; for a STOPPED or HELD one
only a pending AT_POSITION commit is tested (R43, R62). -/
def countNotice (n : AxisId) (dir : Dir) (takes : List Nat) (s : State) : State :=
  if (s.sched n).state = .running then
    let firing := (s.sched n).active.filter ((s.axis n).fires dir)
    let fired := fireAll n dir firing takes (Work.of s [])
    endOfCount n { fired with s := rearmSchedule n fired.s }
  else reachCommit n s

end Sys2Proof.Machine
end

