-- ==== Sys2Proof/Machine/Filter.lean ====
section
/-! DEFINITION. The line filters (R2, R98, R122): the level of a line at a moment, and what a filter makes of the changes
of its line. A line is given by the moments at which it changes, earliest first (`Sys2Proof.Machine.Wires`); before the
first of them it stands at the filtered level. Times are ticks of 10 ns, on a measure that no load of the Timebase
moves (R125). -/

namespace Sys2Proof.Machine

/-- The level at moment `t` of a line that stood at a level before its first listed change. -/
def lineLevel (t : Nat) : Level → List Nat → Level
  | level, [] => level
  | level, m :: rest => if m ≤ t then lineLevel t level.flip rest else level

/-- The changes of a line that are still to come at moment `t`. -/
def changesAfter (t : Nat) (w : List Nat) : List Nat := w.dropWhile fun m => m ≤ t

/-- What a filter takes next from its line: the moment at which it does so, and the changes it then has left. -/
structure LineChange where
  time : Nat
  left : List Nat
  deriving DecidableEq, Repr

/-- The next change of the filtered level, for a filter of `f` ticks that drops what reverts (R2, R122): the line must
hold its new level for f ticks; a departure that returns before is dropped, and the next one is measured afresh. -/
def nextHeld (f : Nat) : List Nat → Option LineChange
  | [] => none
  | [m] => some ⟨m + f, []⟩
  | m :: r :: rest => if r < m + f then nextHeld f rest else some ⟨m + f, r :: rest⟩

/-- The change of the filtered level that the line's first departure makes, if it is held for `f` ticks (R98). A return
at the very moment at which the filter time elapses leaves the elapsing free to be first (R115). -/
def heldEdge (f : Nat) : List Nat → Option LineChange
  | [] => none
  | [m] => some ⟨m + f, []⟩
  | m :: r :: rest => if r < m + f then none else some ⟨m + f, r :: rest⟩

/-- The end of the line's first departure, if it returns before `f` ticks have passed, or at the moment at which they
have and is taken first (R115): a rejected pulse (R98). Without a filter no pulse is rejected. -/
def rejectedReturn (f : Nat) : List Nat → Option LineChange
  | m :: r :: rest => if 0 < f ∧ r ≤ m + f then some ⟨r, rest⟩ else none
  | _ => none

/-- The changes left once the departures that have returned by moment `t` within `f` ticks are dropped. -/
def dropReturned (f t : Nat) : List Nat → List Nat
  | m :: r :: rest => if r < m + f ∧ r ≤ t then dropReturned f t rest else m :: r :: rest
  | [m] => [m]
  | [] => []

/-! ### The lines of an axis -/

/-- A change of the filtered pair of an axis: its moment, the new levels, and the changes of A and B then left. -/
structure PairChange where
  time : Nat
  a : Level
  b : Level
  wires : AxisWires
  deriving DecidableEq, Repr

/-- The next change of the filtered pair (R2): each line is filtered by itself; the earlier change comes first, and two
of the same moment come together. -/
def nextPair (f : Nat) (d : Decoder) (w : AxisWires) : Option PairChange :=
  match nextHeld f w.a, nextHeld f w.b with
  | none, none => none
  | some x, none => some ⟨x.time, d.a.flip, d.b, { w with a := x.left }⟩
  | none, some y => some ⟨y.time, d.a, d.b.flip, { w with b := y.left }⟩
  | some x, some y =>
    if x.time < y.time then some ⟨x.time, d.a.flip, d.b, { w with a := x.left }⟩
    else if y.time < x.time then some ⟨y.time, d.a, d.b.flip, { w with b := y.left }⟩
    else some ⟨x.time, d.a.flip, d.b.flip, { w with a := x.left, b := y.left }⟩

/-- The next change of the filtered pair of axis n, under its filter setting (R2). -/
def State.nextPair (s : State) (n : AxisId) : Option PairChange :=
  Machine.nextPair (s.axis n).config.filter (s.axis n).decoder (s.axisWires n)

/-- The next change of the filtered index line of axis n, under its filter setting (R2). -/
def State.nextIndex (s : State) (n : AxisId) : Option LineChange :=
  nextHeld (s.axis n).config.filter (s.axisWires n).index

/-- The decoder takes a change of the filtered pair at its moment. -/
def State.takePair (s : State) (n : AxisId) (c : PairChange) : State :=
  ((s.runTo c.time).setAxisWires n c.wires).setAxis n
    { s.axis n with decoder := { (s.axis n).decoder with a := c.a, b := c.b } }

/-- The decoder takes a change of the filtered index line at its moment. -/
def State.takeIndex (s : State) (n : AxisId) (c : LineChange) : State :=
  ((s.runTo c.time).setAxisWires n { s.axisWires n with index := c.left }).setAxis n
    { s.axis n with decoder := { (s.axis n).decoder with index := (s.axis n).decoder.index.flip } }

/-- The lines of axis n once the departures that its filter has dropped by now are forgotten. -/
def State.forgetReturned (s : State) (n : AxisId) : State :=
  let f := (s.axis n).config.filter
  let w := s.axisWires n
  s.setAxisWires n ⟨dropReturned f s.now w.a, dropReturned f s.now w.b, dropReturned f s.now w.index⟩

/-! ### Levels taken without a filter -/

/-- The levels on the lines of an axis at moment `t` (Table 1-1). -/
def Decoder.sampled (t : Nat) (d : Decoder) (w : AxisWires) : Decoder :=
  ⟨lineLevel t d.a w.a, lineLevel t d.b w.b, lineLevel t d.index w.index⟩

/-- The lines of an axis after their levels have been taken at moment `t`. -/
def AxisWires.after (t : Nat) (w : AxisWires) : AxisWires :=
  ⟨changesAfter t w.a, changesAfter t w.b, changesAfter t w.index⟩

/-- The lines after every level has been taken at moment `t`. -/
def Wires.after (t : Nat) (w : Wires) : Wires :=
  ⟨w.axes.map (AxisWires.after t), w.triggers.map (changesAfter t), changesAfter t w.sync⟩

end Sys2Proof.Machine
end

