-- ==== Sys2Proof/Machine/Axis.lean ====
section
/-! DEFINITION. The Axis Counters (spec/01_axis_counters.md): decoding of counts and quadrature errors, counting,
entry into LOST, index arrivals and homing. -/

namespace Sys2Proof.Machine

/-! ### Counts -/

/-- The other direction (R6). -/
def Dir.flip : Dir → Dir
  | .up => .down
  | .down => .up

/-- A change of the filtered pair as a single step of the sequence 00, 10, 11, 01, with its direction (R3, R4):
none when both lines change or neither does. -/
def quadStep (a b a' b' : Level) : Option Dir :=
  match a, b, a', b' with
  | .low, .low, .high, .low => some .up
  | .high, .low, .high, .high => some .up
  | .high, .high, .low, .high => some .up
  | .low, .high, .low, .low => some .up
  | .high, .low, .low, .low => some .down
  | .high, .high, .high, .low => some .down
  | .low, .high, .high, .high => some .down
  | .low, .low, .low, .high => some .down
  | _, _, _, _ => none

/-- The steps that give a count in each mode (Table 1-2): all in QUAD_X4, the changes of A in QUAD_X2, those
between 00 and 10 in QUAD_X1. -/
def quadCounts (m : CountMode) (a b a' b' : Level) : Bool :=
  match m with
  | .quadX4 => true
  | .quadX2 => decide (a ≠ a')
  | .quadX1 => decide (b = .low) && decide (b' = .low)
  | .stepDir => false

/-- The count that a change of the filtered pair gives, before inversion (R3, R5). -/
def rawCount (m : CountMode) (a b a' b' : Level) : Option Dir :=
  match m with
  | .stepDir =>
    match a, a', b' with
    | .low, .high, .high => some .up
    | .low, .high, .low => some .down
    | _, _, _ => none
  | .quadX1 => if quadCounts m a b a' b' then quadStep a b a' b' else none
  | .quadX2 => if quadCounts m a b a' b' then quadStep a b a' b' else none
  | .quadX4 => quadStep a b a' b'

/-- Inversion (R6). -/
def AxisConfig.direct (c : AxisConfig) (d : Dir) : Dir := if c.invert then d.flip else d

/-- The step of a direction: +1 or −1. -/
def Dir.step : Dir → Int
  | .up => 1
  | .down => -1

/-- The position after a count (R7, R8); none for a LINEAR count beyond the range. -/
def countPosition (cpr : Nat) (d : Dir) : Position → Option Position
  | .linear x =>
    if x + d.step < Config.minLinear ∨ Config.maxLinear < x + d.step then none else some (.linear (x + d.step))
  | .rotary turn angle =>
    match d with
    | .up => if angle + 1 = cpr then some (.rotary (turn + 1#32) 0) else some (.rotary turn (angle + 1))
    | .down => if angle = 0 then some (.rotary (turn - 1#32) (cpr - 1)) else some (.rotary turn (angle - 1))

/-! ### Reference states -/

/-- An AXIS record (R10, R131): the position, state and error count after the change. -/
def axisRecord (n : AxisId) (reason : AxisReason) (s : State) : State :=
  s.produceIf s.queue.enables.axis
    ⟨.axis (s.axis n).ref reason (s.axis n).errors, s.timebase.count, [(s.axis n).posWord n]⟩

/-- A departure notice goes out if the axis was REFERENCED (R9). -/
def departIf (was : RefState) (n : AxisId) (s : State) : State := if was = .referenced then departure n s else s

/-- The sequence by which an axis enters LOST (R12). R12 and R59 order the departure notice and AXIS_LOST(n), not the
records that the Compare Engine and the Route Table make of them (R139): the model puts the HELD and COMMIT_CANCELLED
records of the departure before every record of an action on AXIS_LOST(n) (DESIGN CHOICE, notes/assumptions/19.md). -/
def enterLost (n : AxisId) (reason : LostReason) (s : State) : State :=
  let was := (s.axis n).ref
  let lost := s.setAxis n { s.axis n with ref := .lost reason }
  sendEvent (.axisLost n) s.timebase.count (departIf was n (axisRecord n (.lost reason) lost))

/-- The axis is LOST, whatever the reason. -/
def RefState.isLost : RefState → Bool
  | .lost _ => true
  | .unreferenced => false
  | .seeking _ => false
  | .referenced => false

/-- A count is applied and handed on, or refused by overrange (R6 to R9). -/
def applyCount (n : AxisId) (d : Dir) (takes : List Nat) (s : State) : State :=
  match countPosition (s.axis n).config.cpr d (s.axis n).position with
  | some p => countNotice n d takes (s.setAxis n { s.axis n with position := p, lastDir := d })
  | none => if (s.axis n).ref.isLost then s else enterLost n .overrange s

/-- The count that a change of the filtered pair gives to an axis, before inversion (R3, R5). -/
def Axis.counts (x : Axis) (c : PairChange) : Option Dir :=
  rawCount x.config.countMode x.decoder.a x.decoder.b c.a c.b

/-- COUNT_EVENT (R2, R3, R5 to R9): the next change of the filtered pair gives a count, which is inverted if the axis
is set so and applied. A change that gives none is not this event. -/
def countEvent (n : AxisId) (takes : List Nat) (s : State) : State :=
  match s.nextPair n with
  | none => s
  | some c => match (s.axis n).counts c with
    | some d => applyCount n ((s.axis n).config.direct d) takes (s.takePair n c)
    | none => s

/-- The change of the filtered pair from (a, b) to (a', b') is a quadrature error (R4). -/
def isQuadError (m : CountMode) (a b a' b' : Level) : Bool :=
  match m with
  | .stepDir => false
  | .quadX1 | .quadX2 | .quadX4 => decide (a ≠ a') && decide (b ≠ b')

/-- A change of the filtered pair is a quadrature error of an axis (R4). -/
def Axis.errs (x : Axis) (c : PairChange) : Bool :=
  isQuadError x.config.countMode x.decoder.a x.decoder.b c.a c.b

/-- A quadrature error is counted (R4), and makes a REFERENCED axis LOST when the count reaches E (R11). -/
def countError (n : AxisId) (s : State) : State :=
  let x := s.axis n
  let counted := s.setAxis n { x with errors := inc16 x.errors }
  if x.ref = .referenced ∧ x.config.errorLimit ≠ 0 ∧ inc16 x.errors = x.config.errorLimit then
    enterLost n .quadErrors counted
  else counted

/-- QUADRATURE_ERROR (R2, R4, R11): at the next change of the filtered pair, both levels change together. -/
def quadratureError (n : AxisId) (s : State) : State :=
  match s.nextPair n with
  | none => s
  | some c => if (s.axis n).errs c then countError n (s.takePair n c) else s

/-- The decoder takes the next change of the filtered pair, if it gives no count and no quadrature error (R3, R5). -/
def pairChange (n : AxisId) (s : State) : State :=
  match s.nextPair n with
  | none => s
  | some c => if ((s.axis n).counts c).isSome || (s.axis n).errs c then s else s.takePair n c

/-- The decoder takes the next change of the filtered index line, if it is a fall (R13). -/
def indexFall (n : AxisId) (s : State) : State :=
  match (s.axis n).decoder.index, s.nextIndex n with
  | .high, some c => s.takeIndex n c
  | .high, none => s
  | .low, _ => s

/-- DECODER_STATE_CHANGE (R2, R3, R5, R13): the decoder takes the next change of its pair or of its index line, if that
gives no count, no quadrature error and no index arrival. A change that gives one of them is not this event. -/
def decoderChange (n : AxisId) : DecoderLines → State → State
  | .pair => pairChange n
  | .index => indexFall n

/-! ### Homing -/

/-- The direction qualifier accepts the last direction (R20). -/
def DirQualifier.accepts : DirQualifier → Dir → Bool
  | .any, _ => true
  | .up, .up => true
  | .up, .down => false
  | .down, .up => false
  | .down, .down => true

/-- The position that completed homing sets (R21). -/
def presetPosition (preset : Word32) : Position → Position
  | .linear _ => .linear preset.toInt
  | .rotary _ _ => .rotary preset 0

/-- Homing completes (R21). -/
def completeHoming (n : AxisId) (s : State) : State :=
  let x := s.axis n
  jump n (axisRecord n .homed (s.setAxis n
    { x with position := presetPosition x.homing.preset x.position, ref := .referenced, errors := 0 }))

/-- The index completes homing from this source (Table 1-5). -/
def HomingSource.onIndex : HomingSource → Bool
  | .index => true
  | .trigger => false
  | .triggerThenIndex => true

/-- An index arrival is offered to homing (R20). -/
def homingIndex (n : AxisId) (s : State) : State :=
  let x := s.axis n
  match x.ref with
  | .seeking .awaitReference =>
    if x.homing.source.onIndex && x.homing.qualifier.accepts x.lastDir then completeHoming n s else s
  | .seeking .awaitGate => s
  | .unreferenced => s
  | .referenced => s
  | .lost _ => s

/-- An accepted edge of TRIGk is handed to an axis (R20, R102). -/
def homingEdge (k : TriggerId) (s : State) (n : AxisId) : State :=
  let x := s.axis n
  match x.ref, x.homing.source with
  | .seeking .awaitGate, .triggerThenIndex =>
    if x.homing.input = k then s.setAxis n { x with ref := .seeking .awaitReference } else s
  | .seeking .awaitReference, .trigger =>
    if x.homing.input = k ∧ x.homing.qualifier.accepts x.lastDir = true then completeHoming n s else s
  | _, _ => s

/-! ### Index arrival -/

/-- The slip at a checked arrival: the angle as a signed deviation from 0 (R14). -/
def slipOf (cpr angle : Nat) : Int := if 2 * angle ≤ cpr then (angle : Int) else (angle : Int) - (cpr : Int)

/-- The slip that a checked arrival measures (R13, R14); none for an unchecked arrival. -/
def Axis.checked (x : Axis) : Option Int :=
  match x.ref, x.position with
  | .referenced, .rotary _ angle => some (slipOf x.config.cpr angle)
  | _, _ => none

/-- A checked arrival is clean (R14). -/
def Axis.clean (x : Axis) (slip : Int) : Bool := decide (slip.natAbs ≤ x.config.tolerance)

/-- A checked arrival that is not clean takes the axis into LOST (R15). -/
def Axis.slipLost (x : Axis) (slip : Int) : Bool :=
  !x.clean slip && decide (x.config.slipLimit ≠ 0) && decide (x.config.slipLimit < slip.natAbs)

/-- A checked arrival is corrected (R16). -/
def Axis.corrected (x : Axis) (slip : Int) : Bool :=
  !x.clean slip && !x.slipLost slip && decide (x.config.slipPolicy = .correct)

/-- An INDEX record is called for (R17). -/
def Axis.reportsIndex (x : Axis) (slip : Option Int) : Bool :=
  match x.config.reporting with
  | .off => false
  | .all => true
  | .slipOnly => match slip with
    | some v => !x.clean v
    | none => false

/-- The INDEX record of an arrival (R17, R130): the position before any correction, the time of the arrival. -/
def indexRecord (n : AxisId) (x : Axis) (slip : Option Int) (time : Ticks) (s : State) : State :=
  s.produceIf (x.reportsIndex slip)
    ⟨match slip with
      | some v => .index v (x.corrected v) (x.clean v)
      | none => .index 0 false false, time, [x.posWord n]⟩

/-- The correction of an index arrival (R16): the angle becomes 0, and a negative slip adds 1 to the turn. -/
def correctPosition (slip : Int) : Position → Position
  | .linear x => .linear x
  | .rotary turn _ => .rotary (if slip < 0 then turn + 1#32 else turn) 0

/-- What a checked arrival does to its axis (R14 to R16): nothing, LOST, or the correction with its jump. -/
def checkArrival (n : AxisId) (slip : Int) (s : State) : State :=
  let x := s.axis n
  if x.slipLost slip then enterLost n .slip s
  else if x.corrected slip then
    jump n (s.setAxis n { x with position := correctPosition slip x.position })
  else s

/-- The axis takes an index arrival (R13): last index position and slip. -/
def noteIndex (n : AxisId) (s : State) : State :=
  let x := s.axis n
  s.setAxis n
    { x with
      lastIndexTurn := x.position.turn
      lastIndexValue := BitVec.ofInt 32 x.position.value
      lastSlip := x.checked.getD 0 }

/-- The axis takes an index arrival (R13 to R18, R20): everything is handed on in the order of R18. -/
def arrive (n : AxisId) (s : State) : State :=
  let x := s.axis n
  let time := s.timebase.count - BitVec.ofNat 48 x.config.filter
  let reported := indexRecord n x x.checked time (noteIndex n s)
  let judged := match x.checked with
    | some slip => checkArrival n slip reported
    | none => reported
  sendEvent (.index n) time (homingIndex n judged)

/-- INDEX_ARRIVAL (R2, R13): the next change of the filtered index line is a rise. A line whose filtered level is
already HIGH gives no arrival. -/
def indexArrival (n : AxisId) (s : State) : State :=
  match (s.axis n).decoder.index, s.nextIndex n with
  | .low, some c => arrive n (s.takeIndex n c)
  | .low, none => s
  | .high, _ => s

end Sys2Proof.Machine
end

