-- ==== Sys2Proof/Machine/Trigger.lean ====
section
/-! DEFINITION. The Trigger Inputs (spec/05_trigger_inputs_and_the_route_table.md, 5.1 and 5.2). -/

namespace Sys2Proof.Machine

/-- The edge that a change to this level is (R98). -/
def Level.edge : Level → Edge
  | .high => .rise
  | .low => .fall

/-- The edge selection selects an edge (R99). -/
def EdgeSelection.selects : EdgeSelection → Edge → Bool
  | .off, _ => false
  | .rise, .rise => true
  | .rise, .fall => false
  | .fall, .rise => false
  | .fall, .fall => true
  | .both, _ => true

/-- The order in which the axes that take an edge after the Route Table take it: those named, then every axis
that neither list names (R102: each axis takes it). -/
def axesAfter (before after : List AxisId) : List AxisId :=
  after ++ Config.allAxes.filter fun n => !(before ++ after).contains n

/-- An accepted edge is handed to the axes and to the Route Table (R102), in the order the command gives. The Route
Table takes its delivery with every source event that this causes before a later axis takes the edge
(DESIGN CHOICE, notes/assumptions/5.md). -/
def deliverEdge (k : TriggerId) (edge : Edge) (time : Ticks) (before after : List AxisId) (s : State) : State :=
  (axesAfter before after).foldl (homingEdge k) (sendEvent (.trig k edge) time (before.foldl (homingEdge k) s))

/-- An edge is accepted (R100, R101): counted, and the holdoff starts if it is not 0. -/
def Trigger.accept (now : Nat) (t : Trigger) : Trigger :=
  { t with
    accepted := inc16 t.accepted
    holdoffEnd := if t.holdoff = 0 then none else some (now + t.holdoff * Config.ticksPerMicro) }

/-- The filter time of an input in ticks (R98). -/
def Trigger.filterTicks (t : Trigger) : Nat := t.filter * Config.ticksPerStep

/-- The timestamp of an accepted edge (R101): the count less the filter time, modulo 2^48. -/
def Trigger.edgeTime (count : Ticks) (t : Trigger) : Ticks :=
  count - BitVec.ofNat 48 t.filterTicks

/-- An edge of input k (R99 to R102): the filtered level changes, and a selected edge is held off or accepted. -/
def takeEdge (k : TriggerId) (before after : List AxisId) (s : State) : State :=
  let t := s.trigger k
  let turned := { t with level := Level.flip t.level }
  let edge := Level.edge turned.level
  if t.selection.selects edge then
    match t.holdoffEnd with
    | some _ => s.setTrigger k { turned with heldOff := inc16 t.heldOff }
    | none =>
      deliverEdge k edge (t.edgeTime s.timebase.count) before after (s.setTrigger k (turned.accept s.now))
  else s.setTrigger k turned

/-- TRIGGER_EDGE (R98): the line has held its new level for the filter time. -/
def triggerEdge (k : TriggerId) (before after : List AxisId) (s : State) : State :=
  match heldEdge (s.trigger k).filterTicks (s.triggerWire k) with
  | some c => takeEdge k before after ((s.runTo c.time).setTriggerWire k c.left)
  | none => s

/-- TRIGGER_REJECTED_PULSE (R98): the line returns within the filter time, which is counted unless the selection is
OFF. -/
def rejectedPulse (k : TriggerId) (s : State) : State :=
  let t := s.trigger k
  match rejectedReturn t.filterTicks (s.triggerWire k) with
  | some c =>
    ((s.runTo c.time).setTriggerWire k c.left).setTrigger k
      { t with filtered := if t.selection = .off then t.filtered else inc16 t.filtered }
  | none => s

/-- HOLDOFF_EXPIRY (R100): the running holdoff ends at its moment. -/
def holdoffExpiry (k : TriggerId) (s : State) : State :=
  match (s.trigger k).holdoffEnd with
  | some t => (s.runTo t).setTrigger k { s.trigger k with holdoffEnd := none }
  | none => s

end Sys2Proof.Machine
end

