-- ==== Sys2Proof/Machine/Timebase.lean ====
section
/-! DEFINITION. The Timebase (spec/06_timebase.md): the wrap of its count and the SYNC load. -/

namespace Sys2Proof.Machine

/-- TIMEBASE_WRAP (R118): time runs on until the count passes from 2^48−1 to 0. During a cold reset the count
stands still and there is no wrap (R117). -/
def timebaseWrap (s : State) : State :=
  match s.phase with
  | .coldReset => s
  | .running => s.advance (Config.countModulus - s.timebase.count.toNat)
  | .warmReset => s.advance (Config.countModulus - s.timebase.count.toNat)

/-- The SYNC load (R124): the count becomes the arm value, the arm is cleared, and a TIME_SYNC record tells the old
count. -/
def syncLoad (arm : SyncArm) (s : State) : State :=
  (s.setTimebase { s.timebase with count := arm.value, arm := none }).produceIf s.queue.enables.timeSync
    ⟨.timeSync s.timebase.count, arm.value, []⟩

/-- A SYNC edge (R122, R124): the SYNC filtered level changes; an edge of the armed polarity makes the load. -/
def takeSyncEdge (s : State) : State :=
  let level := Level.flip s.timebase.syncLevel
  let turned := s.setTimebase { s.timebase with syncLevel := level }
  match s.timebase.arm with
  | some arm => if arm.edge = Level.edge level then syncLoad arm turned else turned
  | none => turned

/-- SYNC_EDGE (R122): the SYNC line has held its new level for 200 ns. -/
def syncEdge (s : State) : State :=
  match nextHeld Config.syncFilter s.wires.sync with
  | some c => takeSyncEdge ((s.runTo c.time).setSyncWire c.left)
  | none => s

end Sys2Proof.Machine
end

