-- ==== Sys2Proof/WellFormed.lean ====
section
/-! DEFINITION. Which commands are well formed. The operand types already bound every unit number, so two
checks are left: a LENGTH_ERROR names a byte that is no length, and the two orders of a TRIGGER_EDGE name
no axis twice. -/

namespace Sys2Proof

/-- The length bytes that open a body (R168): 4 to 250. -/
def lengthInRange (l : Byte) : Bool := 4 ≤ l.toNat && l.toNat ≤ 250

/-- No axis is named twice in the order in which the axes take an edge (R102: one delivery to each axis). -/
def deliveryOrderOk (before after : List AxisId) : Bool := decide (before ++ after).Nodup

/-- A command the outside world can send. -/
def Instr.wellFormed : Instr → Bool
  | .lengthError l => !lengthInRange l
  | .triggerEdge _ before after => deliveryOrderOk before after
  | .coldReset => true
  | .coldResetComplete => true
  | .warmResetComplete => true
  | .timebaseWrap => true
  | .countEvent _ _ => true
  | .quadratureError _ => true
  | .indexArrival _ => true
  | .leadEnd _ => true
  | .pulseEnd _ => true
  | .gapEnd _ => true
  | .triggerRejectedPulse _ => true
  | .holdoffExpiry _ => true
  | .syncEdge => true
  | .ackTimeout => true
  | .keepaliveExpiry => true
  | .frameReceived _ => true
  | .characterError => true
  | .interByteGap => true
  | .txTakeFrame => true
  | .txFrameComplete => true
  | .identify => true
  | .ping => true
  | .attach => true
  | .detach => true
  | .linkConfig => true
  | .linkStats => true
  | .restart => true
  | .axisConfig => true
  | .axisRead => true
  | .axisSetPosition => true
  | .home => true
  | .homeCancel => true
  | .stageAdd => true
  | .stageRemove => true
  | .stageClear => true
  | .stageCopy => true
  | .schedConfig => true
  | .commit => true
  | .commitCancel => true
  | .schedStart => true
  | .schedStop => true
  | .schedRead => true
  | .entryRead => true
  | .outputConfig => true
  | .outputAction => true
  | .outputStop => true
  | .outputRead => true
  | .outputSafe => true
  | .outputRelease => true
  | .triggerConfig => true
  | .triggerRead => true
  | .routeSet => true
  | .routeClear => true
  | .routeRead => true
  | .captureNow => true
  | .recordConfig => true
  | .queueRead => true
  | .deliveryConfig => true
  | .fetch => true
  | .timeRead => true
  | .timeSet => true
  | .syncArm => true
  | .syncDisarm => true
  | .characterReceived _ => true
  | .decoderStateChange _ _ => true
  | .unknownOpRequest => true

end Sys2Proof
end

