-- ==== Sys2Proof/Machine/Link.lean ====
section
/-! DEFINITION. The Host Link (spec/09_host_link_and_sessions.md): the receiver, the notice path and the intake, the
dispatcher with its checks and the reply cache, the transmitter, session ends, and the three steps of a reset. -/

namespace Sys2Proof.Machine

/-! ### Request operations (R196, Table 10-4) -/

/-- The request operation identifiers of Table 10-4. -/
inductive RequestOp where
  | identify
  | ping
  | attach
  | detach
  | linkConfig
  | linkStats
  | restart
  | axisConfig
  | axisRead
  | axisSetPosition
  | home
  | homeCancel
  | stageAdd
  | stageRemove
  | stageClear
  | stageCopy
  | schedConfig
  | commit
  | commitCancel
  | schedStart
  | schedStop
  | schedRead
  | entryRead
  | outputConfig
  | outputAction
  | outputStop
  | outputRead
  | outputSafe
  | outputRelease
  | triggerConfig
  | triggerRead
  | routeSet
  | routeClear
  | routeRead
  | captureNow
  | recordConfig
  | queueRead
  | deliveryConfig
  | fetch
  | timeRead
  | timeSet
  | syncArm
  | syncDisarm
  deriving DecidableEq, Repr

/-- The op byte of a request (Table 10-4). -/
def RequestOp.code : RequestOp → Byte
  | .identify => 0x01#8
  | .ping => 0x02#8
  | .attach => 0x03#8
  | .detach => 0x04#8
  | .linkConfig => 0x05#8
  | .linkStats => 0x06#8
  | .restart => 0x07#8
  | .axisConfig => 0x10#8
  | .axisRead => 0x11#8
  | .axisSetPosition => 0x12#8
  | .home => 0x13#8
  | .homeCancel => 0x14#8
  | .stageAdd => 0x20#8
  | .stageRemove => 0x21#8
  | .stageClear => 0x22#8
  | .stageCopy => 0x23#8
  | .schedConfig => 0x24#8
  | .commit => 0x25#8
  | .commitCancel => 0x26#8
  | .schedStart => 0x27#8
  | .schedStop => 0x28#8
  | .schedRead => 0x29#8
  | .entryRead => 0x2A#8
  | .outputConfig => 0x30#8
  | .outputAction => 0x31#8
  | .outputStop => 0x32#8
  | .outputRead => 0x33#8
  | .outputSafe => 0x34#8
  | .outputRelease => 0x35#8
  | .triggerConfig => 0x40#8
  | .triggerRead => 0x41#8
  | .routeSet => 0x42#8
  | .routeClear => 0x43#8
  | .routeRead => 0x44#8
  | .captureNow => 0x50#8
  | .recordConfig => 0x51#8
  | .queueRead => 0x52#8
  | .deliveryConfig => 0x53#8
  | .fetch => 0x54#8
  | .timeRead => 0x60#8
  | .timeSet => 0x61#8
  | .syncArm => 0x62#8
  | .syncDisarm => 0x63#8

/-- Every request operation. -/
def RequestOp.all : List RequestOp :=
  [.identify, .ping, .attach, .detach, .linkConfig, .linkStats, .restart, .axisConfig, .axisRead,
    .axisSetPosition, .home, .homeCancel, .stageAdd, .stageRemove, .stageClear, .stageCopy, .schedConfig,
    .commit, .commitCancel, .schedStart, .schedStop, .schedRead, .entryRead] ++
  [.outputConfig, .outputAction, .outputStop, .outputRead, .outputSafe, .outputRelease, .triggerConfig,
    .triggerRead, .routeSet, .routeClear, .routeRead, .captureNow, .recordConfig, .queueRead,
    .deliveryConfig, .fetch, .timeRead, .timeSet, .syncArm, .syncDisarm]

/-- The op byte names a request (R175, first check). -/
def isRequestOp (b : Byte) : Bool := RequestOp.all.any fun o => o.code = b

/-- The requests allowed while DETACHED (R175, second check). -/
def RequestOp.whileDetached : RequestOp → Bool
  | .identify => true
  | .ping => true
  | .attach => true
  | .linkConfig => true
  | .linkStats => true
  | .restart => true
  | _ => false

/-- The fixed payload lengths of Table 10-4; none for PING and STAGE_ADD. -/
def RequestOp.fixedLength : RequestOp → Option Nat
  | .identify => some 0
  | .ping => none
  | .attach => some 3
  | .detach => some 0
  | .linkConfig => some 1
  | .linkStats => some 1
  | .restart => some 0
  | .axisConfig => some 15
  | .axisRead => some 1
  | .axisSetPosition => some 9
  | .home => some 8
  | .homeCancel => some 1
  | .stageAdd => none
  | .stageRemove => some 3
  | .stageClear => some 1
  | .stageCopy => some 1
  | .schedConfig => some 3
  | .commit => some 7
  | .commitCancel => some 1
  | .schedStart => some 1
  | .schedStop => some 1
  | .schedRead => some 1
  | .entryRead => some 4
  | .outputConfig => some 5
  | .outputAction => some 8
  | .outputStop => some 1
  | .outputRead => some 0
  | .outputSafe => some 0
  | .outputRelease => some 0
  | .triggerConfig => some 5
  | .triggerRead => some 1
  | .routeSet => some 16
  | .routeClear => some 1
  | .routeRead => some 1
  | .captureNow => some 1
  | .recordConfig => some 4
  | .queueRead => some 0
  | .deliveryConfig => some 4
  | .fetch => some 1
  | .timeRead => some 0
  | .timeSet => some 6
  | .syncArm => some 7
  | .syncDisarm => some 0

/-- The payload has the length the op requires (R175, third check; R196). -/
def RequestOp.lengthOk (op : RequestOp) (payload : List Byte) : Bool :=
  match op.fixedLength with
  | some n => decide (payload.length = n)
  | none =>
    match op with
    | .stageAdd => match payload with
      | _ :: c :: _ => decide (payload.length = 2 + 14 * c.toNat)
      | _ => false
    | _ => decide (payload.length ≤ Config.maxPayload)

/-! ### Sessions -/

/-- The moment of expiry of a keepalive timer that starts now (R180); none for a keepalive of 0. -/
def keepaliveFrom (s : State) (keepalive : Nat) : Option Nat :=
  if keepalive = 0 then none else some (s.now + keepalive * Config.ticksPerMilli)

/-- A session ends (R182, steps 1 to 5): waiting requests are discarded, the cache is emptied, the timer stops, a
hold for DETACH ends, and delivery takes its session reset. -/
def endSession (s : State) : State :=
  deliverySessionReset (s.setLink
    { s.link with
      session := none
      keepalive := none
      waiting := []
      cache := []
      hold := match s.link.hold with
        | .detach => .none
        | .restart => .restart
        | .none => .none })

/-- The loss action (R183): SAFE entry, and under SAFE_AND_STOP the stop of every schedule (R60). The link hands it to
the two blocks independently; that both take it within one KEEPALIVE_EXPIRY, the Output Unit first, is the model's
choice (DESIGN CHOICE, notes/assumptions/21.md). -/
def applyLoss (loss : LossAction) (s : State) : State :=
  match loss with
  | .none => s
  | .safeOutputs => enterSafe s
  | .safeAndStop => stopAll (enterSafe s)

/-- KEEPALIVE_EXPIRY (R182, R183): at the expiry of a running keepalive timer the session ends, and its loss action
is applied. -/
def keepaliveExpiry (s : State) : State :=
  match s.link.keepalive, s.link.session with
  | some t, some session => applyLoss session.loss (endSession (s.runTo t))
  | _, _ => s

/-! ### The receiver -/

/-- A frame whose check has passed restarts a running keepalive timer (R171, R180). -/
def restartKeepalive (s : State) : State :=
  match s.link.keepalive, s.link.session with
  | some _, some session => s.setLink { s.link with keepalive := keepaliveFrom s session.keepalive }
  | _, _ => s

/-- The requests the intake holds: those waiting, and those taken whose reply has not been handed over (R173). -/
def Link.intake (l : Link) : Nat := l.waiting.length + l.replies.length

/-- A request enters the intake, or is discarded at a full one (R173). -/
def enterIntake (r : Request) (s : State) : State :=
  if s.link.intake < Config.intakeCapacity then s.setLink { s.link with waiting := s.link.waiting ++ [r] }
  else s.setLink
    { s.link with stats := { s.link.stats with intakeOverruns := inc16 s.link.stats.intakeOverruns } }

/-- The Delivery Controller judges a notice (R155 to R157): its payload must be a sequence number. -/
def judgeNotice (ack : Bool) (payload : List Byte) (s : State) : State :=
  if payload.length = 4 ∧ validNotice s (wordBE payload) = true then
    if ack then takeAck (wordBE payload) s else takeNak (wordBE payload) s
  else rejectNotice s

/-- A notice is taken as it arrives (R172). -/
def takeNotice (ack : Bool) (payload : List Byte) (s : State) : State :=
  match s.link.session with
  | some _ => judgeNotice ack payload s
  | none => s.setLink
    { s.link with stats := { s.link.stats with discardedNotices := inc16 s.link.stats.discardedNotices } }

/-- A request or a notice is counted as accepted (R171, R188). -/
def countAccepted (s : State) : State :=
  s.setLink { s.link with stats := { s.link.stats with framesAccepted := s.link.stats.framesAccepted + 1#32 } }

/-- A frame of any other kind is discarded and counted (R171, step 5). -/
def countWrongKind (s : State) : State :=
  s.setLink { s.link with stats := { s.link.stats with wrongKind := inc16 s.link.stats.wrongKind } }

/-- The CRC of a frame as it would be with the RETRY flag clear (R184). -/
def fingerprintOf (len kind : Byte) (rest : List Byte) : Word16 := crc (len :: (kind &&& 0x7F#8) :: rest)

/-- A frame that passes its check (R171). A body is never shorter than its header, since L is at least 4. -/
def acceptFrame (len : Byte) (body : List Byte) (s : State) : State :=
  match body with
  | kind :: tag :: op :: status :: payload =>
    let alive := restartKeepalive s
    match kind.toNat % 16 with
    | 1 => enterIntake
        ⟨kind.msb, tag, op, payload, fingerprintOf len kind (tag :: op :: status :: payload)⟩
        (countAccepted alive)
    | 4 =>
      if op = 0x70#8 then takeNotice true payload (countAccepted alive)
      else if op = 0x71#8 then takeNotice false payload (countAccepted alive)
      else countWrongKind alive
    | _ => countWrongKind alive
  | _ => s

/-- The receiver takes a new state, its last character ending now (R168, R170). -/
def setReceiver (r : Receiver) (s : State) : State :=
  s.setLink { s.link with receiver := r, rxLast := s.now }

/-- The frame check (R169): a mismatch discards the frame and counts a CRC error. -/
def checkFrame (len : Byte) (body : List Byte) (high low : Byte) (s : State) : State :=
  if high ++ low = crc (len :: body) then acceptFrame len body (setReceiver .hunt s)
  else (setReceiver .hunt s).setLink
    { (setReceiver .hunt s).link with
      stats := { s.link.stats with crcErrors := inc16 s.link.stats.crcErrors } }

/-- A length byte out of range discards the frame and is counted (R168). -/
def countLengthError (s : State) : State :=
  (setReceiver .hunt s).setLink
    { (setReceiver .hunt s).link with
      stats := { s.link.stats with lengthErrors := inc16 s.link.stats.lengthErrors } }

/-- A character received without error moves the receiver (R168). -/
def receiveCharacter (b : Byte) (s : State) : State :=
  match s.link.receiver with
  | .hunt => if b = 0xA5#8 then setReceiver .length s else s
  | .length => if lengthInRange b then setReceiver (.body b []) s else countLengthError s
  | .body len got =>
    if got.length + 1 < len.toNat then setReceiver (.body len (got ++ [b])) s
    else setReceiver (.check len (got ++ [b]) none) s
  | .check len got none => setReceiver (.check len got (some b)) s
  | .check len got (some high) => checkFrame len got high b s

/-- A character error (R170): counted, and a frame in progress is discarded. -/
def characterError (s : State) : State :=
  s.setLink
    { s.link with
      receiver := .hunt
      stats := { s.link.stats with characterErrors := inc16 s.link.stats.characterErrors } }

/-- More than 2 ms pass inside a frame (R170): the frame is discarded and a gap counted. No gap is measured in
HUNT. -/
def interByteGap (s : State) : State :=
  match s.link.receiver with
  | .hunt => s
  | .length | .body _ _ | .check _ _ _ =>
    (s.runTo (s.link.rxLast + Config.interByteLimit * Config.ticksPerMilli + 1)).setLink
      { s.link with
        receiver := .hunt
        stats := { s.link.stats with gapDiscards := inc16 s.link.stats.gapDiscards } }

/-! ### The dispatcher and the reply cache -/

/-- What carrying out or refusing a request gives: a status, a payload, and what the reply orders beyond its own
sending. -/
structure Answer where
  status : Status
  payload : List Byte
  closing : Closing
  deriving DecidableEq, Repr

/-- An answer with a payload. -/
def Answer.of (status : Status) (payload : List Byte) : Answer := ⟨status, payload, .nothing⟩

/-- An answer with an empty payload. -/
def Answer.bare (status : Status) : Answer := ⟨status, [], .nothing⟩

/-- OK with an empty payload. -/
def Answer.done : Answer := .bare .ok

/-- The reply to a request (R176). -/
def Answer.reply (a : Answer) (r : Request) : Reply := ⟨r.tag, r.op, a.status, a.payload, false⟩

/-- A reply is placed at the tail of the reply queue (R176). -/
def queueReply (q : QueuedReply) (s : State) : State :=
  s.setLink { s.link with replies := s.link.replies ++ [q] }

/-- A cache entry becomes the most recent one, in place of one with its tag (R184). -/
def remember (e : CacheEntry) (cache : List CacheEntry) : List CacheEntry :=
  (e :: cache.filter fun x => x.tag ≠ e.tag).take Config.cacheCapacity

/-- The replies of DETACH and RESTART are not stored (R184). -/
def uncached (op : Byte) : Bool := decide (op = RequestOp.detach.code) || decide (op = RequestOp.restart.code)

/-- A reply is stored while the link is ATTACHED once its request is whole (R184). -/
def storeReply (r : Request) (reply : Reply) (s : State) : State :=
  if s.link.session.isSome && !uncached r.op then
    s.setLink { s.link with cache := remember ⟨r.tag, r.fingerprint, reply⟩ s.link.cache }
  else s

/-- A request is answered: its reply is queued and stored (R174, step 4). -/
def answerRequest (r : Request) (result : State × Answer) : State :=
  storeReply r (result.2.reply r) (queueReply ⟨result.2.reply r, result.2.closing⟩ result.1)

/-- The cache entry a request is matched with: only for a request with the RETRY flag (R185). -/
def cachedFor (r : Request) (cache : List CacheEntry) : Option CacheEntry :=
  if r.retry then cache.find? fun e => e.tag = r.tag else none

/-- A retry is answered from the cache (R185): the cached reply is re-sent with its RETRY flag set, or the request
is refused with RETRY_MISMATCH; it is not carried out. -/
def answerRetry (r : Request) (e : CacheEntry) (s : State) : State :=
  if e.fingerprint = r.fingerprint then
    queueReply ⟨{ e.reply with resent := true }, .nothing⟩ (s.setLink
      { s.link with
        cache := remember e s.link.cache
        stats := { s.link.stats with retriesServed := inc16 s.link.stats.retriesServed } })
  else queueReply ⟨(Answer.bare .retryMismatch).reply r, .nothing⟩ s

/-- The dispatcher takes the oldest waiting request, if it is one of those accepted here and no hold stands
(R174): a retry is matched in the cache first, and otherwise the request is carried out and answered. -/
def takeRequest (accepts : Byte → Bool) (carry : Request → State → State × Answer) (s : State) : State :=
  match s.phase, s.link.hold, s.link.waiting with
  | .running, .none, r :: rest =>
    if accepts r.op then
      let taken := s.setLink { s.link with waiting := rest }
      match cachedFor r s.link.cache with
      | some e => answerRetry r e taken
      | none => answerRequest r (carry r taken)
    else s
  | _, _, _ => s

/-- The dispatch checks after the first one (R175), and the owning block for a request that passes them. -/
def carryChecked {α : Type} (op : RequestOp) (read : State → List Byte → Option α)
    (carry : α → State → State × Answer) (r : Request) (s : State) : State × Answer :=
  if !op.whileDetached && s.link.session.isNone then (s, .bare .notAttached)
  else if !op.lengthOk r.payload then (s, .bare .badLength)
  else match read s r.payload with
    | none => (s, .bare .badParam)
    | some p => carry p s

/-- The dispatcher takes a request with this op (R174, R175). -/
def dispatch {α : Type} (op : RequestOp) (read : State → List Byte → Option α)
    (carry : α → State → State × Answer) (s : State) : State :=
  takeRequest (fun b => decide (b = op.code)) (carryChecked op read carry) s

/-! ### Resets -/

/-- What a reset leaves of the part, besides what each kind of reset keeps: every block at its reset values. The lines
and the running of time are the outside's; the filtered levels stand until the reset completes, when they are taken
from the lines (notes/assumptions/14.md). -/
def resetBlocks (s : State) : State :=
  { State.reset with
    now := s.now
    wires := s.wires
    axes := s.axes.map fun x => .reset x.decoder
    triggers := s.triggers.map fun t => .reset t.level
    timebase := { State.reset.timebase with syncLevel := s.timebase.syncLevel }
    pending := s.pending }

/-- COLD_RESET (R190): every block holds its cold reset values, and a frame being sent is broken off. -/
def coldReset (s : State) : State := { resetBlocks s with phase := .coldReset, link := .reset .b115200 }

/-- The warm reset begins (R189): every block takes its warm reset values; the Timebase count, the next sequence
number and the baud rate are kept. -/
def beginWarmReset (s : State) : State :=
  { resetBlocks s with
    phase := .warmReset
    timebase := { (resetBlocks s).timebase with count := s.timebase.count }
    queue := .reset s.queue.next
    delivery := .reset s.queue.next
    link := .reset s.link.baud }

/-- A reset completes (R189, R190): the blocks take the levels of their input lines, a change in progress abandoned
(Tables 1-1, 5-1, 6-1), and HELLO is made (R186). -/
def completeReset (reason : HelloReason) (s : State) : State :=
  { s with
    phase := .running
    wires := s.wires.after s.now
    axes := Vector.ofFn fun n => { s.axes[n] with decoder := s.axes[n].decoder.sampled s.now s.wires.axes[n] }
    triggers := Vector.ofFn fun k =>
      { s.triggers[k] with level := lineLevel s.now s.triggers[k].level s.wires.triggers[k] }
    timebase := { s.timebase with syncLevel := lineLevel s.now s.timebase.syncLevel s.wires.sync }
    link := { s.link with hello := some ⟨reason, s.queue.next⟩ } }

/-- A cold reset completes (R190). -/
def completeCold (s : State) : State :=
  match s.phase with
  | .coldReset => completeReset .cold s
  | .running => s
  | .warmReset => s

/-- A warm reset completes (R189). -/
def completeWarm (s : State) : State :=
  match s.phase with
  | .warmReset => completeReset .warm s
  | .running => s
  | .coldReset => s

/-! ### The transmitter -/

/-- The transmitter becomes SENDING with a frame. -/
def startSending (frame : List Byte) (closing : Closing) (s : State) : State :=
  s.setLink { s.link with transmitter := .sending frame closing }

/-- The transmitter takes the oldest reply (R177): its request leaves the intake; the reply of a DETACH ends the
session (R181). -/
def sendReply (q : QueuedReply) (rest : List QueuedReply) (s : State) : State :=
  let taken := startSending q.reply.frame q.closing (s.setLink { s.link with replies := rest })
  match q.closing with
  | .sessionEnd => endSession taken
  | .nothing => taken
  | .rate _ => taken
  | .warmReset => taken

/-- TX_TAKE_FRAME (R177): a FREE transmitter takes the oldest reply, else a pending HELLO, else the offered
record. -/
def takeFrame (s : State) : State :=
  match s.link.transmitter with
  | .sending _ _ => s
  | .free =>
    match s.link.replies, s.link.hello with
    | q :: rest, _ => sendReply q rest s
    | [], some h => startSending h.frame .nothing (s.setLink { s.link with hello := none })
    | [], none =>
      match offered s with
      | some r => startSending r.frame .nothing (handover s)
      | none => s

/-- The new rate applies (R167): the link changes to it, and a frame in progress is discarded uncounted. -/
def changeRate (b : Baud) (s : State) : State := s.setLink { s.link with baud := b, receiver := .hunt }

/-- TX_FRAME_COMPLETE (R177): the transmitter becomes FREE, and what the frame's reply ordered takes place: a rate
change (R167) or the warm reset (R189). -/
def frameComplete (s : State) : State :=
  match s.link.transmitter with
  | .free => s
  | .sending _ closing =>
    let done := s.setLink { s.link with transmitter := .free }
    match closing with
    | .nothing => done
    | .sessionEnd => done
    | .rate b => changeRate b done
    | .warmReset => beginWarmReset done

end Sys2Proof.Machine
end

