-- ==== Sys2Proof/Machine/AxisRequests.lean ====
section
/-! DEFINITION. The axis requests (spec/01_axis_counters.md, 1.6 and 1.7). -/

namespace Sys2Proof.Machine

/-- Position 0 in an axis mode (R24). -/
def AxisMode.zero : AxisMode → Position
  | .linear => .linear 0
  | .rotary => .rotary 0#32 0

/-- The axis that AXIS_CONFIG leaves (R24): the new configuration at position 0, UNREFERENCED; the decoder keeps
the filtered levels and the homing parameters stay. -/
def Axis.reconfigure (x : Axis) (c : AxisConfig) (m : AxisMode) : Axis :=
  { x with
    config := c
    position := m.zero
    lastDir := .up
    ref := .unreferenced
    errors := 0
    lastIndexTurn := 0#32
    lastIndexValue := 0#32
    lastSlip := 0 }

/-- AXIS_CONFIG (R24): only while the schedule is STOPPED and both lists are empty. The AXIS record stands before
the departure notice (R59), the jump after it. What the old filter has dropped stays dropped, and a change in progress
is judged under the new setting (notes/assumptions/8.md). -/
def carryAxisConfig (p : AxisId × AxisConfig × AxisMode) (s : State) : State × Answer :=
  let (n, c, m) := p
  if (s.sched n).state = .stopped ∧ (s.sched n).active = [] ∧ (s.sched n).staging = [] then
    (jump n (departIf (s.axis n).ref n
      (axisRecord n .config ((s.forgetReturned n).setAxis n ((s.axis n).reconfigure c m)))), .done)
  else (s, .bare .wrongState)

/-- The AXIS_READ reply (R25, R200). -/
def axisPayload (n : AxisId) (x : Axis) : List Byte :=
  [x.ref.code, x.ref.subCode] ++ (x.posWord n).encode ++ [x.lastDir.code] ++ bytesBE 2 x.errors
    ++ [x.ref.lostCode] ++ (PosWord.mk n x.lastIndexTurn x.lastIndexValue).encode ++ intBytes x.lastSlip

/-- AXIS_READ changes nothing (R25). -/
def carryAxisRead (n : AxisId) (s : State) : State × Answer := (s, .of .ok (axisPayload n (s.axis n)))

/-- AXIS_SET_POSITION (R23). -/
def carrySetPosition (p : AxisId × Position) (s : State) : State × Answer :=
  let (n, position) := p
  (jump n (axisRecord n .set (s.setAxis n
    { s.axis n with position := position, ref := .referenced, errors := 0 })), .done)

/-- The first sub-state of a homing source (Table 1-5). -/
def HomingSource.firstSub : HomingSource → HomingSub
  | .index => .awaitReference
  | .trigger => .awaitReference
  | .triggerThenIndex => .awaitGate

/-- HOME (R19): SEEKING from the first sub-state, with a departure if the axis was REFERENCED. -/
def carryHome (p : AxisId × HomingParams) (s : State) : State × Answer :=
  let (n, h) := p
  (departIf (s.axis n).ref n (s.setAxis n { s.axis n with homing := h, ref := .seeking h.source.firstSub }),
    .bare .accepted)

/-- HOME_CANCEL (R22): refused unless the axis is SEEKING. -/
def carryHomeCancel (n : AxisId) (s : State) : State × Answer :=
  match (s.axis n).ref with
  | .seeking _ =>
    (axisRecord n .homeCancelled (s.setAxis n { s.axis n with ref := .unreferenced }), .done)
  | .unreferenced => (s, .bare .wrongState)
  | .referenced => (s, .bare .wrongState)
  | .lost _ => (s, .bare .wrongState)

/-- AXIS_CONFIG (R24). -/
def execAxisConfig (s : State) : Host.Outcome State Fault Refusal :=
  .next (dispatch .axisConfig readAxisConfig carryAxisConfig s)

/-- AXIS_READ (R25). -/
def execAxisRead (s : State) : Host.Outcome State Fault Refusal :=
  .next (dispatch .axisRead readAxisOnly carryAxisRead s)

/-- AXIS_SET_POSITION (R23). -/
def execAxisSetPosition (s : State) : Host.Outcome State Fault Refusal :=
  .next (dispatch .axisSetPosition readSetPosition carrySetPosition s)

/-- HOME (R19). -/
def execHome (s : State) : Host.Outcome State Fault Refusal := .next (dispatch .home readHome carryHome s)

/-- HOME_CANCEL (R22). -/
def execHomeCancel (s : State) : Host.Outcome State Fault Refusal :=
  .next (dispatch .homeCancel readAxisOnly carryHomeCancel s)

end Sys2Proof.Machine
end

