-- ==== Sys2Proof/Machine/Serial.lean ====
section
/-! DEFINITION. The characters on RXD and TXD (R166): format 8N1, as the levels of their ten bit times in the order
sent. How long a bit time lasts at each baud rate is timing (notes/assumptions/14.md). -/

namespace Sys2Proof.Machine

/-- The level that sends a bit. -/
def bitLevel (b : Bool) : Level := if b then .high else .low

/-- The bit that a level carries. -/
def Level.bit : Level → Bool
  | .low => false
  | .high => true

/-- The level at which RXD and TXD idle (R166). -/
def idleLevel : Level := .high

/-- The eight data bits of a character, least significant first. -/
def dataLevels (b : Byte) : List Level := [0, 1, 2, 3, 4, 5, 6, 7].map fun i => bitLevel (b.getLsbD i)

/-- A character with its byte (R166): a start bit at the low level, the data bits and a stop bit at the high level. -/
def characterLevels (b : Byte) : List Level := .low :: dataLevels b ++ [.high]

/-- The byte of eight data bits, least significant first. -/
def dataByte (bits : List Level) : Byte := BitVec.ofBoolListLE (bits.map Level.bit) |>.setWidth 8

/-- What the receiver makes of the ten bit times from a start bit on (R166, R168, R170): a character received, or with
the stop bit sampled low a character error. A line at the high level has begun no character. -/
def sampleCharacter : List Level → Option Instr
  | [.low, b0, b1, b2, b3, b4, b5, b6, b7, .high] =>
    some (.characterReceived (dataByte [b0, b1, b2, b3, b4, b5, b6, b7]))
  | [.low, _, _, _, _, _, _, _, _, .low] => some .characterError
  | _ => none

/-- What the transmitter sends on TXD (R166, R177): the characters of its frame back to back, and none when it is FREE,
the line then idling. -/
def Transmitter.levels : Transmitter → List Level
  | .free => []
  | .sending frame _ => frame.flatMap characterLevels

end Sys2Proof.Machine
end

