-- ==== Sys2Proof/Machine/Events.lean ====
section
/-! DEFINITION. The meanings of the events: the resets, the wrap, the events of the axes, lines, inputs and timers, and
those of the serial link. An event that the state does not admit (a change that no line makes, the end of a phase
that no line is in, the expiry of a timer that does not run, any event but a reset's while the part stands in a reset) is no event of
the part, and nothing changes (notes/assumptions/3.md). -/

namespace Sys2Proof.Machine

/-- COLD_RESET (R190). -/
def execColdReset (s : State) : Host.Outcome State Fault Refusal := .next (coldReset s)

/-- COLD_RESET_COMPLETE (R190). -/
def execColdResetComplete (s : State) : Host.Outcome State Fault Refusal := .next (completeCold s)

/-- WARM_RESET_COMPLETE (R189). -/
def execWarmResetComplete (s : State) : Host.Outcome State Fault Refusal := .next (completeWarm s)

/-- TIMEBASE_WRAP (R118). -/
def execTimebaseWrap (s : State) : Host.Outcome State Fault Refusal := .next (timebaseWrap s)

/-- COUNT_EVENT (R2, R3, R5 to R9, and the evaluation of R46). -/
def execCountEvent (n : AxisId) (takes : List Nat) (s : State) : Host.Outcome State Fault Refusal :=
  .next (whenRunning (countEvent n takes) s)

/-- QUADRATURE_ERROR (R4, R11). -/
def execQuadratureError (n : AxisId) (s : State) : Host.Outcome State Fault Refusal :=
  .next (whenRunning (quadratureError n) s)

/-- INDEX_ARRIVAL (R13 to R18). -/
def execIndexArrival (n : AxisId) (s : State) : Host.Outcome State Fault Refusal :=
  .next (whenRunning (indexArrival n) s)

/-- DECODER_STATE_CHANGE (R3, R5). -/
def execDecoderStateChange (n : AxisId) (lines : DecoderLines) (s : State) : Host.Outcome State Fault Refusal :=
  .next (whenRunning (decoderChange n lines) s)

/-- LEAD_END (R79). -/
def execLeadEnd (l : LineId) (s : State) : Host.Outcome State Fault Refusal := .next (whenRunning (endLead l) s)

/-- PULSE_END (R79 to R81). -/
def execPulseEnd (l : LineId) (s : State) : Host.Outcome State Fault Refusal :=
  .next (whenRunning (endPulse l) s)

/-- GAP_END (R80). -/
def execGapEnd (l : LineId) (s : State) : Host.Outcome State Fault Refusal := .next (whenRunning (endGap l) s)

/-- TRIGGER_EDGE (R98 to R102). -/
def execTriggerEdge (k : TriggerId) (before after : List AxisId) (s : State) :
    Host.Outcome State Fault Refusal :=
  .next (whenRunning (triggerEdge k before after) s)

/-- TRIGGER_REJECTED_PULSE (R98). -/
def execTriggerRejectedPulse (k : TriggerId) (s : State) : Host.Outcome State Fault Refusal :=
  .next (whenRunning (rejectedPulse k) s)

/-- HOLDOFF_EXPIRY (R100). -/
def execHoldoffExpiry (k : TriggerId) (s : State) : Host.Outcome State Fault Refusal :=
  .next (whenRunning (holdoffExpiry k) s)

/-- SYNC_EDGE (R122, R124). -/
def execSyncEdge (s : State) : Host.Outcome State Fault Refusal := .next (whenRunning syncEdge s)

/-- ACK_TIMEOUT (R153). -/
def execAckTimeout (s : State) : Host.Outcome State Fault Refusal := .next (whenRunning ackTimeout s)

/-- KEEPALIVE_EXPIRY (R182, R183). -/
def execKeepaliveExpiry (s : State) : Host.Outcome State Fault Refusal := .next (whenRunning keepaliveExpiry s)

/-- CHARACTER_RECEIVED (R168). -/
def execCharacterReceived (b : Byte) (s : State) : Host.Outcome State Fault Refusal :=
  .next (whenRunning (receiveCharacter b) s)

/-- The receiver awaits the second CRC byte of a frame. -/
def Receiver.lastByte : Receiver → Bool
  | .check _ _ (some _) => true
  | .check _ _ none => false
  | .hunt => false
  | .length => false
  | .body _ _ => false

/-- FRAME_RECEIVED (R168, R169, R171): the second CRC byte of the frame in progress. -/
def execFrameReceived (crcLow : Byte) (s : State) : Host.Outcome State Fault Refusal :=
  .next (whenRunning (fun s => if s.link.receiver.lastByte then receiveCharacter crcLow s else s) s)

/-- LENGTH_ERROR (R168): a byte outside 4–250 in LENGTH. -/
def execLengthError (length : Byte) (s : State) : Host.Outcome State Fault Refusal :=
  .next (whenRunning
    (fun s => if s.link.receiver = .length ∧ lengthInRange length = false then countLengthError s else s) s)

/-- CHARACTER_ERROR (R170). -/
def execCharacterError (s : State) : Host.Outcome State Fault Refusal := .next (whenRunning characterError s)

/-- INTER_BYTE_GAP (R170). -/
def execInterByteGap (s : State) : Host.Outcome State Fault Refusal := .next (whenRunning interByteGap s)

/-- TX_TAKE_FRAME (R177). -/
def execTxTakeFrame (s : State) : Host.Outcome State Fault Refusal := .next (whenRunning takeFrame s)

/-- TX_FRAME_COMPLETE (R177). -/
def execTxFrameComplete (s : State) : Host.Outcome State Fault Refusal := .next (whenRunning frameComplete s)

/-- UNKNOWN_OP_REQUEST (R175): the oldest waiting request has no request operation identifier. -/
def execUnknownOpRequest (s : State) : Host.Outcome State Fault Refusal :=
  .next (takeRequest (fun b => !isRequestOp b) (fun _ s => (s, .bare .unknownOp)) s)

end Sys2Proof.Machine
end

