-- ==== Sys2Proof/Machine/LinkRequests.lean ====
section
/-! DEFINITION. The link requests (spec/09_host_link_and_sessions.md, 9.2, 9.6 and 9.9). -/

namespace Sys2Proof.Machine

/-- The IDENTIFY reply (R187, R202): vendor code, part code, revision and capacities. -/
def identifyPayload : List Byte :=
  bytesBE 2 Config.vendorCode ++ bytesBE 2 Config.partCode ++ [byteOf Config.revision, 4#8, 8#8, 6#8, 16#8]
    ++ bytesBE 2 Config.poolSlots ++ bytesBE 2 Config.queueCapacity

/-- IDENTIFY changes nothing (R187). -/
def carryIdentify (_ : Unit) (s : State) : State × Answer := (s, .of .ok identifyPayload)

/-- PING answers with the same bytes (R187). -/
def carryPing (bytes : List Byte) (s : State) : State × Answer := (s, .of .ok bytes)

/-- The queue values of an ATTACH reply (R145, R178, R202). -/
def attachPayload (q : RecordQueue) : List Byte :=
  wordBytes q.oldest ++ wordBytes q.next ++ bytesBE 2 q.occupancy ++ bytesBE 4 q.pendingLoss

/-- ATTACH opens a session (R178); taken while ATTACHED it empties the cache and resets delivery (R179). -/
def carryAttach (p : Session) (s : State) : State × Answer :=
  let opened := s.setLink
    { s.link with
      session := some p
      keepalive := keepaliveFrom s p.keepalive
      cache := if s.link.session.isSome then [] else s.link.cache }
  (if s.link.session.isSome then deliverySessionReset opened else opened,
    .of .ok (attachPayload s.queue))

/-- DETACH stops the keepalive timer and holds the dispatcher; its reply ends the session (R181). -/
def carryDetach (_ : Unit) (s : State) : State × Answer :=
  (s.setLink { s.link with keepalive := none, hold := .detach }, ⟨.ok, [], .sessionEnd⟩)

/-- LINK_CONFIG: the new rate applies when its reply has left (R167). -/
def carryLinkConfig (b : Baud) (s : State) : State × Answer := (s, ⟨.ok, [], .rate b⟩)

/-- The counters of a LINK_STATS reply (R188, R202). -/
def statsPayload (t : LinkStats) : List Byte :=
  wordBytes t.framesAccepted ++ bytesBE 2 t.crcErrors ++ bytesBE 2 t.lengthErrors
    ++ bytesBE 2 t.characterErrors ++ bytesBE 2 t.gapDiscards ++ bytesBE 2 t.intakeOverruns
    ++ bytesBE 2 t.retriesServed ++ bytesBE 2 t.discardedNotices ++ bytesBE 2 t.wrongKind

/-- LINK_STATS reports the counters, then clears them if asked (R188). -/
def carryLinkStats (clear : Bool) (s : State) : State × Answer :=
  (if clear then s.setLink { s.link with stats := .reset } else s, .of .ok (statsPayload s.link.stats))

/-- RESTART holds the dispatcher; the warm reset follows its reply (R189). -/
def carryRestart (_ : Unit) (s : State) : State × Answer :=
  (s.setLink { s.link with hold := .restart }, ⟨.ok, [], .warmReset⟩)

/-- IDENTIFY (R187). -/
def execIdentify (s : State) : Host.Outcome State Fault Refusal :=
  .next (dispatch .identify readNothing carryIdentify s)

/-- PING (R187). -/
def execPing (s : State) : Host.Outcome State Fault Refusal := .next (dispatch .ping readAnyBytes carryPing s)

/-- ATTACH (R178, R179). -/
def execAttach (s : State) : Host.Outcome State Fault Refusal := .next (dispatch .attach readAttach carryAttach s)

/-- DETACH (R181). -/
def execDetach (s : State) : Host.Outcome State Fault Refusal := .next (dispatch .detach readNothing carryDetach s)

/-- LINK_CONFIG (R167). -/
def execLinkConfig (s : State) : Host.Outcome State Fault Refusal :=
  .next (dispatch .linkConfig readLinkConfig carryLinkConfig s)

/-- LINK_STATS (R188). -/
def execLinkStats (s : State) : Host.Outcome State Fault Refusal :=
  .next (dispatch .linkStats readLinkStats carryLinkStats s)

/-- RESTART (R189). -/
def execRestart (s : State) : Host.Outcome State Fault Refusal :=
  .next (dispatch .restart readNothing carryRestart s)

end Sys2Proof.Machine
end

