-- ==== Sys2Proof/Machine/ListRequests.lean ====
section
/-! DEFINITION. The staging and schedule requests (spec/02_compare_entries_and_the_entry_pool.md, 2.4, and
03_schedules_and_commit.md). -/

namespace Sys2Proof.Machine

/-! ### Staging -/

/-- The staging counts of a reply (R39 and the text after it, R195): entry count and free count. -/
def stagingCounts (n : AxisId) (s : State) : List Byte :=
  bytesBE 2 (s.sched n).staging.length ++ bytesBE 2 s.free

/-- A staging answer carries the counts as they stand after the request. -/
def stagingAnswer (n : AxisId) (status : Status) (s : State) : State × Answer :=
  (s, .of status (stagingCounts n s))

/-- An entry takes its place in a list (R32): after every entry whose position is less than or equal to its own. -/
def placeEntry (e : Entry) : List Entry → List Entry
  | [] => [e]
  | x :: xs => if x.position ≤ e.position then x :: placeEntry e xs else e :: x :: xs

/-- The entries of a batch take their places in batch order (R32). -/
def placeBatch (batch staging : List Entry) : List Entry := batch.foldl (fun l e => placeEntry e l) staging

/-- A tag is used twice, within a batch or in the batch and the staging list (R34). -/
def duplicateTag (batch staging : List Entry) : Bool :=
  !decide (batch.map Entry.tag).Nodup || batch.any fun e => staging.any fun x => x.tag = e.tag

/-- STAGE_ADD (R34): all or none, by the checks in their order. -/
def carryStageAdd (p : AxisId × List Entry) (s : State) : State × Answer :=
  let (n, batch) := p
  let c := s.sched n
  if c.commit.isSome then stagingAnswer n .wrongState s
  else if duplicateTag batch c.staging then stagingAnswer n .dupTag s
  else if s.free < batch.length then stagingAnswer n .noSpace s
  else stagingAnswer n .ok
    ((s.setFree (s.free - batch.length)).setSched n { c with staging := placeBatch batch c.staging })

/-- STAGE_REMOVE (R35). -/
def carryStageRemove (p : AxisId × Nat) (s : State) : State × Answer :=
  let (n, tag) := p
  let c := s.sched n
  if c.commit.isSome then stagingAnswer n .wrongState s
  else if c.staging.any (fun e => e.tag = tag) then
    stagingAnswer n .ok
      ((s.setFree (s.free + 1)).setSched n { c with staging := c.staging.eraseP fun e => e.tag = tag })
  else stagingAnswer n .noEntry s

/-- STAGE_CLEAR (R36). -/
def carryStageClear (n : AxisId) (s : State) : State × Answer :=
  let c := s.sched n
  if c.commit.isSome then stagingAnswer n .wrongState s
  else stagingAnswer n .ok ((s.setFree (s.free + c.staging.length)).setSched n { c with staging := [] })

/-- A copy of an entry: its programmed fields, armed no, fire count 0 (R37). -/
def Entry.copy (e : Entry) : Entry := { e with armed := false, fires := 0 }

/-- STAGE_COPY (R37). -/
def carryStageCopy (n : AxisId) (s : State) : State × Answer :=
  let c := s.sched n
  if c.commit.isSome then stagingAnswer n .wrongState s
  else if s.free + c.staging.length < c.active.length then stagingAnswer n .noSpace s
  else stagingAnswer n .ok
    ((s.setFree (s.free + c.staging.length - c.active.length)).setSched n
      { c with staging := c.active.map Entry.copy })

/-- The ENTRY_READ reply (R39, R200). -/
def entryPayload (e : Entry) : List Byte := e.encode ++ [flagByte e.armed] ++ bytesBE 2 e.fires

/-- ENTRY_READ changes nothing (R39). -/
def carryEntryRead (p : AxisId × Bool × Nat) (s : State) : State × Answer :=
  let (n, staging, tag) := p
  let list := if staging then (s.sched n).staging else (s.sched n).active
  match list.find? fun e => e.tag = tag with
  | some e => (s, .of .ok (entryPayload e))
  | none => (s, .bare .noEntry)

/-! ### Schedules -/

/-- SCHED_CONFIG sets H and changes no armed flag (R72). -/
def carrySchedConfig (p : AxisId × Nat) (s : State) : State × Answer :=
  let (n, h) := p
  (s.setSched n { s.sched n with h := h }, .done)

/-- COMMIT (R64): NOW takes effect at once, and its completion reaches the Route Table; the other modes pend. -/
def carryCommit (p : AxisId × CommitMode × Bool) (s : State) : State × Answer :=
  let (n, mode, run) := p
  let c := s.sched n
  if c.commit.isSome then (s, .bare .wrongState)
  else match mode with
    | .now => (sendEvents (takeCommit n run s).2 (takeCommit n run s).1, .done)
    | .atTrigger => (s.setSched n { c with commit := some (.atTrigger run) }, .done)
    | .atPosition p =>
      if (s.axis n).ref = .referenced then
        (s.setSched n { c with commit := some (.atPosition p run) }, .done)
      else (s, .bare .notReferenced)

/-- COMMIT_CANCEL (R71). -/
def carryCommitCancel (n : AxisId) (s : State) : State × Answer :=
  if (s.sched n).commit.isSome then (cancelCommit n s, .done) else (s, .bare .noEntry)

/-- SCHED_START (R56), by its cases in their order. -/
def carrySchedStart (n : AxisId) (s : State) : State × Answer :=
  if (s.sched n).state = .running then (s, .done)
  else if (s.sched n).active = [] then (s, .bare .emptyList)
  else if (s.axis n).ref ≠ .referenced then (s, .bare .notReferenced)
  else (runSchedule n s, .done)

/-- SCHED_STOP (R58). -/
def carrySchedStop (n : AxisId) (s : State) : State × Answer := (stopSchedule n s, .done)

/-- How far above the axis an entry's position lies, counting UP round the circle of a ROTARY axis (R73); none
when it is not above. -/
def Axis.above (a : Axis) (p : Int) : Option Nat :=
  match a.position with
  | .linear x => if x < p then some (p - x).toNat else none
  | .rotary _ angle =>
    let d := (p - (angle : Int)) % (a.config.cpr : Int)
    if d = 0 then none else some d.toNat

/-- How far below the axis an entry's position lies, counting DOWN round the circle of a ROTARY axis (R73). -/
def Axis.below (a : Axis) (p : Int) : Option Nat :=
  match a.position with
  | .linear x => if p < x then some (x - p).toNat else none
  | .rotary _ angle =>
    let d := ((angle : Int) - p) % (a.config.cpr : Int)
    if d = 0 then none else some d.toNat

/-- The nearest entry so far, and its distance, when the search meets one more armed entry (R73): only a strictly
nearer one replaces it, so the earliest in list order is named. -/
def nearer (key : Int → Option Nat) (best : Option (Nat × Nat)) (e : Entry) : Option (Nat × Nat) :=
  if e.armed then
    match key e.position, best with
    | some d, some (d', tag) => if d < d' then some (d, e.tag) else some (d', tag)
    | some d, none => some (d, e.tag)
    | none, _ => best
  else best

/-- The tag of the nearest armed entry by a key, or 0 (R73). -/
def nearestTag (key : Int → Option Nat) (es : List Entry) : Nat :=
  match es.foldl (nearer key) none with
  | some (_, tag) => tag
  | none => 0

/-- Pending commit mode, position and run flag of a SCHED_READ reply (R73, R200). -/
def commitPayload : Option PendingCommit → List Byte
  | none => 0#8 :: (intBytes 0 ++ [0#8])
  | some (.atTrigger run) => 2#8 :: (intBytes 0 ++ [flagByte run])
  | some (.atPosition p run) => 3#8 :: (intBytes p ++ [flagByte run])

/-- The SCHED_READ reply (R73, R200). -/
def schedPayload (a : Axis) (c : Schedule) (free : Nat) : List Byte :=
  [c.state.code] ++ bytesBE 2 c.active.length ++ bytesBE 2 c.staging.length ++ commitPayload c.commit
    ++ bytesBE 2 c.h ++ bytesBE 2 (nearestTag a.above c.active) ++ bytesBE 2 (nearestTag a.below c.active)
    ++ wordBytes c.total ++ bytesBE 2 free

/-- SCHED_READ changes nothing (R73). -/
def carrySchedRead (n : AxisId) (s : State) : State × Answer :=
  (s, .of .ok (schedPayload (s.axis n) (s.sched n) s.free))

/-! ### Meanings -/

/-- STAGE_ADD (R34). -/
def execStageAdd (s : State) : Host.Outcome State Fault Refusal :=
  .next (dispatch .stageAdd readStageAdd carryStageAdd s)

/-- STAGE_REMOVE (R35). -/
def execStageRemove (s : State) : Host.Outcome State Fault Refusal :=
  .next (dispatch .stageRemove readStageRemove carryStageRemove s)

/-- STAGE_CLEAR (R36). -/
def execStageClear (s : State) : Host.Outcome State Fault Refusal :=
  .next (dispatch .stageClear readAxisOnly carryStageClear s)

/-- STAGE_COPY (R37). -/
def execStageCopy (s : State) : Host.Outcome State Fault Refusal :=
  .next (dispatch .stageCopy readAxisOnly carryStageCopy s)

/-- SCHED_CONFIG (R72). -/
def execSchedConfig (s : State) : Host.Outcome State Fault Refusal :=
  .next (dispatch .schedConfig readSchedConfig carrySchedConfig s)

/-- COMMIT (R64). -/
def execCommit (s : State) : Host.Outcome State Fault Refusal := .next (dispatch .commit readCommit carryCommit s)

/-- COMMIT_CANCEL (R71). -/
def execCommitCancel (s : State) : Host.Outcome State Fault Refusal :=
  .next (dispatch .commitCancel readAxisOnly carryCommitCancel s)

/-- SCHED_START (R56). -/
def execSchedStart (s : State) : Host.Outcome State Fault Refusal :=
  .next (dispatch .schedStart readAxisOnly carrySchedStart s)

/-- SCHED_STOP (R58). -/
def execSchedStop (s : State) : Host.Outcome State Fault Refusal :=
  .next (dispatch .schedStop readAxisOnly carrySchedStop s)

/-- SCHED_READ (R73). -/
def execSchedRead (s : State) : Host.Outcome State Fault Refusal :=
  .next (dispatch .schedRead readAxisOnly carrySchedRead s)

/-- ENTRY_READ (R39). -/
def execEntryRead (s : State) : Host.Outcome State Fault Refusal :=
  .next (dispatch .entryRead readEntryRead carryEntryRead s)

end Sys2Proof.Machine
end

