-- ==== Sys2Proof/Machine/OutputRequests.lean ====
section
/-! DEFINITION. The requests to the Output Unit (spec/04_output_lines.md, 4.4 and 4.5). -/

namespace Sys2Proof.Machine

/-- OUTPUT_CONFIG (R91): the line's actions end uncounted, and the steady level becomes the new idle level. -/
def carryOutputConfig (p : LineId × Level × Level × Policy × Bool) (s : State) : State × Answer :=
  let (l, idle, safeLevel, policy, report) := p
  if s.safe then (s, .bare .outputsSafe)
  else
    (s.setLine l
      { (s.line l).stop s.now with
        idle := idle
        safeLevel := safeLevel
        policy := policy
        report := report
        steady := idle }, .done)

/-- OUTPUT_ACTION (R89): the outcome is the one the line gives the action. -/
def carryOutputAction (p : LineId × OutAction) (s : State) : State × Answer :=
  let (l, act) := p
  if s.safe then (s, .bare .outputsSafe)
  else ((takeAction l act s).1, .of .ok [(takeAction l act s).2.code])

/-- OUTPUT_STOP (R90): whether a running action was ended and a waiting one discarded. -/
def carryOutputStop (l : LineId) (s : State) : State × Answer :=
  (s.setLine l ((s.line l).stop s.now),
    .of .ok [flagByte (s.line l).running.isSome, flagByte (s.line l).waiting.isSome])

/-- The running action in an OUTPUT_READ reply: kind, parameters, phase and remaining pulses, all 0 when none
runs (R92, R201). -/
def runningPayload : Option Running → List Byte
  | none => bytesBE 10 0
  | some r =>
    byteOf (OutAction.timed r.action).code :: (OutAction.timed r.action).params ++ [r.phase.code]
      ++ bytesBE 2 r.remaining

/-- The waiting action in an OUTPUT_READ reply: kind and parameters (R92, R201). -/
def waitingPayload : Option OutAction → List Byte
  | none => bytesBE 7 0
  | some act => byteOf act.code :: act.params

/-- The 27 bytes of one line (R92, R201). -/
def linePayload (safe : Bool) (x : Line) : List Byte :=
  [levelCode (x.pin safe), levelCode x.steady, levelCode x.idle, levelCode x.safeLevel, x.policy.code,
    flagByte x.report] ++ runningPayload x.running ++ waitingPayload x.waiting ++ bytesBE 2 x.drops
    ++ bytesBE 2 x.preempts

/-- The OUTPUT_READ reply (R92, R201). -/
def outputPayload (s : State) : List Byte :=
  flagByte s.safe :: (Config.allLines.map fun l => linePayload s.safe (s.line l)).flatten

/-- OUTPUT_READ changes nothing (R92). -/
def carryOutputRead (_ : Unit) (s : State) : State × Answer := (s, .of .ok (outputPayload s))

/-- OUTPUT_SAFE (R93). -/
def carryOutputSafe (_ : Unit) (s : State) : State × Answer := (enterSafe s, .done)

/-- OUTPUT_RELEASE (R95). -/
def carryOutputRelease (_ : Unit) (s : State) : State × Answer := (leaveSafe s, .done)

/-- OUTPUT_CONFIG (R91). -/
def execOutputConfig (s : State) : Host.Outcome State Fault Refusal :=
  .next (dispatch .outputConfig readOutputConfig carryOutputConfig s)

/-- OUTPUT_ACTION (R89). -/
def execOutputAction (s : State) : Host.Outcome State Fault Refusal :=
  .next (dispatch .outputAction readOutputAction carryOutputAction s)

/-- OUTPUT_STOP (R90). -/
def execOutputStop (s : State) : Host.Outcome State Fault Refusal :=
  .next (dispatch .outputStop readLineOnly carryOutputStop s)

/-- OUTPUT_READ (R92). -/
def execOutputRead (s : State) : Host.Outcome State Fault Refusal :=
  .next (dispatch .outputRead readNothing carryOutputRead s)

/-- OUTPUT_SAFE (R93). -/
def execOutputSafe (s : State) : Host.Outcome State Fault Refusal :=
  .next (dispatch .outputSafe readNothing carryOutputSafe s)

/-- OUTPUT_RELEASE (R95). -/
def execOutputRelease (s : State) : Host.Outcome State Fault Refusal :=
  .next (dispatch .outputRelease readNothing carryOutputRelease s)

end Sys2Proof.Machine
end

