-- ==== Sys2Proof/Machine/RecordRequests.lean ====
section
/-! DEFINITION. The record, delivery and time requests (spec/07_the_record_queue.md, 08_record_delivery.md and
06_timebase.md). -/

namespace Sys2Proof.Machine

/-! ### Record Queue -/

/-- CAPTURE_NOW (R135): a CAPTURE record of the positions as they stand; the reply tells whether it was admitted
and under which number. -/
def carryCaptureNow (set : AxisSet) (s : State) : State × Answer :=
  (s.produce ⟨.capture none .host 0, s.timebase.count, posWords s.axes set⟩,
    .of .ok (if s.queue.occupancy < Config.queueCapacity then 0#8 :: wordBytes s.queue.next
      else 1#8 :: wordBytes 0#32))

/-- RECORD_CONFIG (R133). -/
def carryRecordConfig (e : KindEnables) (s : State) : State × Answer :=
  (s.setQueue { s.queue with enables := e }, .done)

/-- The QUEUE_READ reply (R144, R202). -/
def queuePayload (q : RecordQueue) : List Byte :=
  bytesBE 2 q.occupancy ++ wordBytes q.oldest ++ wordBytes q.next ++ bytesBE 4 q.pendingLoss
    ++ bytesBE 4 q.totalLost ++ wordBytes q.totalAdmitted
    ++ [flagByte q.enables.axis, flagByte q.enables.schedule, flagByte q.enables.output,
      flagByte q.enables.timeSync]

/-- QUEUE_READ changes nothing (R144). -/
def carryQueueRead (_ : Unit) (s : State) : State × Answer := (s, .of .ok (queuePayload s.queue))

/-! ### Delivery -/

/-- The delivery status (R160, R202). -/
def deliveryPayload (s : State) : List Byte :=
  let d := s.delivery
  [d.mode.code, byteOf d.window] ++ bytesBE 2 d.ackTimeout ++ [flagByte d.stalled, byteOf d.timeouts]
    ++ bytesBE 2 d.ackErrors ++ wordBytes s.queue.oldest ++ wordBytes s.queue.next
    ++ wordBytes d.sendPoint ++ wordBytes d.highMark

/-- The delivery state after DELIVERY_CONFIG (R161): fall back to the oldest record, the high mark limited to the
new window, timer stopped and stall ended. -/
def configureDelivery (mode : DeliveryMode) (window timeout : Nat) (s : State) : State :=
  let d := s.delivery
  s.setDelivery
    { d with
      mode := mode
      window := window
      ackTimeout := timeout
      sendPoint := s.queue.oldest
      highMark :=
        if window < s.queue.distance d.highMark then s.queue.oldest + BitVec.ofNat 32 window else d.highMark
      ackTimer := none
      timeouts := 0
      stalled := false }

/-- DELIVERY_CONFIG (R161). -/
def carryDeliveryConfig (p : DeliveryMode × Nat × Nat) (s : State) : State × Answer :=
  let t := configureDelivery p.1 p.2.1 p.2.2 s
  (t, .of .ok (deliveryPayload t))

/-- The pointers after a FETCH that returns k records (R159). -/
def fetchRecords (k : Nat) (s : State) : State :=
  let point := s.queue.oldest + BitVec.ofNat 32 k
  s.setDelivery
    { s.delivery with sendPoint := point, highMark := s.queue.further s.delivery.highMark point }

/-- The FETCH reply (R159, R202): the fixed part and the records returned. -/
def fetchPayload (k : Nat) (s : State) : List Byte :=
  [byteOf k] ++ bytesBE 2 s.queue.occupancy ++ wordBytes s.queue.oldest ++ wordBytes s.queue.next
    ++ wordBytes s.delivery.sendPoint ++ wordBytes s.delivery.highMark ++ bytesBE 2 s.delivery.ackErrors
    ++ ((s.queue.records.take k).map Record.encode).flatten

/-- FETCH (R158, R159): in STREAM mode it is refused with the delivery status. -/
def carryFetch (n : Nat) (s : State) : State × Answer :=
  match s.delivery.mode with
  | .stream => (s, .of .wrongState (deliveryPayload s))
  | .poll =>
    let t := fetchRecords (fetchCount n s) s
    (t, .of .ok (fetchPayload (fetchCount n s) t))

/-! ### Timebase -/

/-- The TIME_READ reply (R120, R202). -/
def timePayload (t : Timebase) : List Byte :=
  bytesBE 6 t.count.toNat
    ++ (match t.arm with
      | some arm => 1#8 :: (bytesBE 6 arm.value.toNat ++ [arm.edge.code])
      | none => 0#8 :: (bytesBE 6 0 ++ [1#8]))
    ++ [levelCode t.syncLevel]

/-- TIME_READ changes nothing (R120). -/
def carryTimeRead (_ : Unit) (s : State) : State × Answer := (s, .of .ok (timePayload s.timebase))

/-- TIME_SET loads the count (R121). -/
def carryTimeSet (value : Ticks) (s : State) : State × Answer :=
  (s.setTimebase { s.timebase with count := value }, .done)

/-- SYNC_ARM arms, or re-arms, the one-shot load (R123). -/
def carrySyncArm (arm : SyncArm) (s : State) : State × Answer :=
  (s.setTimebase { s.timebase with arm := some arm }, .done)

/-- SYNC_DISARM clears the arm (R123). -/
def carrySyncDisarm (_ : Unit) (s : State) : State × Answer :=
  if s.timebase.arm.isSome then (s.setTimebase { s.timebase with arm := none }, .done)
  else (s, .bare .noEntry)

/-! ### Meanings -/

/-- CAPTURE_NOW (R135). -/
def execCaptureNow (s : State) : Host.Outcome State Fault Refusal :=
  .next (dispatch .captureNow readCaptureNow carryCaptureNow s)

/-- RECORD_CONFIG (R133). -/
def execRecordConfig (s : State) : Host.Outcome State Fault Refusal :=
  .next (dispatch .recordConfig readRecordConfig carryRecordConfig s)

/-- QUEUE_READ (R144). -/
def execQueueRead (s : State) : Host.Outcome State Fault Refusal :=
  .next (dispatch .queueRead readNothing carryQueueRead s)

/-- DELIVERY_CONFIG (R161). -/
def execDeliveryConfig (s : State) : Host.Outcome State Fault Refusal :=
  .next (dispatch .deliveryConfig readDeliveryConfig carryDeliveryConfig s)

/-- FETCH (R158, R159). -/
def execFetch (s : State) : Host.Outcome State Fault Refusal := .next (dispatch .fetch readFetch carryFetch s)

/-- TIME_READ (R120). -/
def execTimeRead (s : State) : Host.Outcome State Fault Refusal :=
  .next (dispatch .timeRead readNothing carryTimeRead s)

/-- TIME_SET (R121). -/
def execTimeSet (s : State) : Host.Outcome State Fault Refusal := .next (dispatch .timeSet readTimeSet carryTimeSet s)

/-- SYNC_ARM (R123). -/
def execSyncArm (s : State) : Host.Outcome State Fault Refusal := .next (dispatch .syncArm readSyncArm carrySyncArm s)

/-- SYNC_DISARM (R123). -/
def execSyncDisarm (s : State) : Host.Outcome State Fault Refusal :=
  .next (dispatch .syncDisarm readNothing carrySyncDisarm s)

end Sys2Proof.Machine
end

