-- ==== Sys2Proof/Machine/RouteRequests.lean ====
section
/-! DEFINITION. The trigger and route requests (spec/05_trigger_inputs_and_the_route_table.md, 5.3 and 5.6). -/

namespace Sys2Proof.Machine

/-- TRIGGER_CONFIG (R103): a level change in progress is abandoned, the filtered level becomes the line's level without
an edge, the holdoff ends, the settings are replaced and the counts become 0. -/
def carryTriggerConfig (p : TriggerId × EdgeSelection × Nat × Nat) (s : State) : State × Answer :=
  let (k, selection, filter, holdoff) := p
  ((s.setTriggerWire k (changesAfter s.now (s.triggerWire k))).setTrigger k
    { selection := selection
      filter := filter
      holdoff := holdoff
      level := lineLevel s.now (s.trigger k).level (s.triggerWire k)
      holdoffEnd := none
      accepted := 0
      filtered := 0
      heldOff := 0 }, .done)

/-- The TRIGGER_READ reply (R104, R201). -/
def triggerPayload (t : Trigger) : List Byte :=
  [levelCode t.level, t.selection.code, byteOf t.filter] ++ bytesBE 2 t.holdoff
    ++ [flagByte t.holdoffEnd.isSome] ++ bytesBE 2 t.accepted ++ bytesBE 2 t.filtered ++ bytesBE 2 t.heldOff

/-- TRIGGER_READ changes nothing (R104). -/
def carryTriggerRead (k : TriggerId) (s : State) : State × Answer := (s, .of .ok (triggerPayload (s.trigger k)))

/-- ROUTE_SET (R112). -/
def carryRouteSet (p : RouteId × Route) (s : State) : State × Answer := (s.setRoute p.1 p.2, .done)

/-- ROUTE_CLEAR (R113). -/
def carryRouteClear (r : RouteId) (s : State) : State × Answer :=
  (s.setRoute r { s.route r with enable := false }, .done)

/-- The three source bytes of a ROUTE_READ reply (R201). -/
def sourcePayload : Option RouteSource → List Byte
  | none => bytesBE 3 0
  | some (.trig k e) => [1#8, byteOf k.val, e.code]
  | some (.index n) => [2#8, byteOf n.val, 0#8]
  | some (.mark n m) => [3#8, byteOf n.val, byteOf m.val]
  | some (.axisLost n) => [4#8, byteOf n.val, 0#8]
  | some (.schedDone n) => [5#8, byteOf n.val, 0#8]

/-- The nine action bytes of a ROUTE_READ reply (R201). -/
def routeActionPayload : Option RouteAction → List Byte
  | none => bytesBE 9 0
  | some (.capture set) => [1#8, byteOf set.toNat] ++ bytesBE 7 0
  | some (.start n) => [2#8, byteOf n.val] ++ bytesBE 7 0
  | some (.stop n) => [3#8, byteOf n.val] ++ bytesBE 7 0
  | some (.commit n) => [4#8, byteOf n.val] ++ bytesBE 7 0
  | some (.output l act) => [5#8, byteOf l.val, byteOf act.code] ++ act.params

/-- The ROUTE_READ reply (R114, R201). -/
def routePayload (r : Route) : List Byte :=
  [flagByte r.enable] ++ sourcePayload r.source ++ bytesBE 2 r.divider ++ routeActionPayload r.action
    ++ [byteOf r.counter] ++ bytesBE 2 r.matched ++ bytesBE 2 r.acted ++ bytesBE 2 r.shadowed

/-- ROUTE_READ changes nothing (R114). -/
def carryRouteRead (r : RouteId) (s : State) : State × Answer := (s, .of .ok (routePayload (s.route r)))

/-- TRIGGER_CONFIG (R103). -/
def execTriggerConfig (s : State) : Host.Outcome State Fault Refusal :=
  .next (dispatch .triggerConfig readTriggerConfig carryTriggerConfig s)

/-- TRIGGER_READ (R104). -/
def execTriggerRead (s : State) : Host.Outcome State Fault Refusal :=
  .next (dispatch .triggerRead readTriggerOnly carryTriggerRead s)

/-- ROUTE_SET (R112). -/
def execRouteSet (s : State) : Host.Outcome State Fault Refusal :=
  .next (dispatch .routeSet readRouteSet carryRouteSet s)

/-- ROUTE_CLEAR (R113). -/
def execRouteClear (s : State) : Host.Outcome State Fault Refusal :=
  .next (dispatch .routeClear readRouteOnly carryRouteClear s)

/-- ROUTE_READ (R114). -/
def execRouteRead (s : State) : Host.Outcome State Fault Refusal :=
  .next (dispatch .routeRead readRouteOnly carryRouteRead s)

end Sys2Proof.Machine
end

