-- ==== Sys2Proof/Machine/Dispatch.lean ====
section
/-! DEFINITION. The dispatch of a command to its meaning: one arm for each row of spec/opcode_table.json. -/

namespace Sys2Proof.Machine

/-- The effect of a command on everything but the queue of waiting commands. -/
def exec (i : Instr) (s : State) : Host.Outcome State Fault Refusal :=
  match i with
  | .coldReset => Sys2Proof.Machine.execColdReset s
  | .coldResetComplete => Sys2Proof.Machine.execColdResetComplete s
  | .warmResetComplete => Sys2Proof.Machine.execWarmResetComplete s
  | .timebaseWrap => Sys2Proof.Machine.execTimebaseWrap s
  | .countEvent n takes => Sys2Proof.Machine.execCountEvent n takes s
  | .quadratureError n => Sys2Proof.Machine.execQuadratureError n s
  | .indexArrival n => Sys2Proof.Machine.execIndexArrival n s
  | .leadEnd l => Sys2Proof.Machine.execLeadEnd l s
  | .pulseEnd l => Sys2Proof.Machine.execPulseEnd l s
  | .gapEnd l => Sys2Proof.Machine.execGapEnd l s
  | .triggerEdge k before after => Sys2Proof.Machine.execTriggerEdge k before after s
  | .triggerRejectedPulse k => Sys2Proof.Machine.execTriggerRejectedPulse k s
  | .holdoffExpiry k => Sys2Proof.Machine.execHoldoffExpiry k s
  | .syncEdge => Sys2Proof.Machine.execSyncEdge s
  | .ackTimeout => Sys2Proof.Machine.execAckTimeout s
  | .keepaliveExpiry => Sys2Proof.Machine.execKeepaliveExpiry s
  | .frameReceived crcLow => Sys2Proof.Machine.execFrameReceived crcLow s
  | .lengthError length => Sys2Proof.Machine.execLengthError length s
  | .characterError => Sys2Proof.Machine.execCharacterError s
  | .interByteGap => Sys2Proof.Machine.execInterByteGap s
  | .txTakeFrame => Sys2Proof.Machine.execTxTakeFrame s
  | .txFrameComplete => Sys2Proof.Machine.execTxFrameComplete s
  | .identify => Sys2Proof.Machine.execIdentify s
  | .ping => Sys2Proof.Machine.execPing s
  | .attach => Sys2Proof.Machine.execAttach s
  | .detach => Sys2Proof.Machine.execDetach s
  | .linkConfig => Sys2Proof.Machine.execLinkConfig s
  | .linkStats => Sys2Proof.Machine.execLinkStats s
  | .restart => Sys2Proof.Machine.execRestart s
  | .axisConfig => Sys2Proof.Machine.execAxisConfig s
  | .axisRead => Sys2Proof.Machine.execAxisRead s
  | .axisSetPosition => Sys2Proof.Machine.execAxisSetPosition s
  | .home => Sys2Proof.Machine.execHome s
  | .homeCancel => Sys2Proof.Machine.execHomeCancel s
  | .stageAdd => Sys2Proof.Machine.execStageAdd s
  | .stageRemove => Sys2Proof.Machine.execStageRemove s
  | .stageClear => Sys2Proof.Machine.execStageClear s
  | .stageCopy => Sys2Proof.Machine.execStageCopy s
  | .schedConfig => Sys2Proof.Machine.execSchedConfig s
  | .commit => Sys2Proof.Machine.execCommit s
  | .commitCancel => Sys2Proof.Machine.execCommitCancel s
  | .schedStart => Sys2Proof.Machine.execSchedStart s
  | .schedStop => Sys2Proof.Machine.execSchedStop s
  | .schedRead => Sys2Proof.Machine.execSchedRead s
  | .entryRead => Sys2Proof.Machine.execEntryRead s
  | .outputConfig => Sys2Proof.Machine.execOutputConfig s
  | .outputAction => Sys2Proof.Machine.execOutputAction s
  | .outputStop => Sys2Proof.Machine.execOutputStop s
  | .outputRead => Sys2Proof.Machine.execOutputRead s
  | .outputSafe => Sys2Proof.Machine.execOutputSafe s
  | .outputRelease => Sys2Proof.Machine.execOutputRelease s
  | .triggerConfig => Sys2Proof.Machine.execTriggerConfig s
  | .triggerRead => Sys2Proof.Machine.execTriggerRead s
  | .routeSet => Sys2Proof.Machine.execRouteSet s
  | .routeClear => Sys2Proof.Machine.execRouteClear s
  | .routeRead => Sys2Proof.Machine.execRouteRead s
  | .captureNow => Sys2Proof.Machine.execCaptureNow s
  | .recordConfig => Sys2Proof.Machine.execRecordConfig s
  | .queueRead => Sys2Proof.Machine.execQueueRead s
  | .deliveryConfig => Sys2Proof.Machine.execDeliveryConfig s
  | .fetch => Sys2Proof.Machine.execFetch s
  | .timeRead => Sys2Proof.Machine.execTimeRead s
  | .timeSet => Sys2Proof.Machine.execTimeSet s
  | .syncArm => Sys2Proof.Machine.execSyncArm s
  | .syncDisarm => Sys2Proof.Machine.execSyncDisarm s
  | .characterReceived value => Sys2Proof.Machine.execCharacterReceived value s
  | .decoderStateChange n lines => Sys2Proof.Machine.execDecoderStateChange n lines s
  | .unknownOpRequest => Sys2Proof.Machine.execUnknownOpRequest s

end Sys2Proof.Machine
end

