-- ==== Sys2Proof/Safety.lean ====
section
/-! DEFINITION. What the claims about the part say: how a request is taken and answered, what a reset leaves, and the
relations of the spec that no step breaks (the free count of the pool, the order of the lists, a RUNNING schedule's
axis, the occupied lines, the numbering of the records, the delivery pointers, the reply cache and the intake). -/

namespace Sys2Proof.Machine

/-! ### Requests -/

/-- The dispatcher of a running part takes `r` afresh: no hold stands, `r` is the oldest waiting request, and it is
no retry of a request in the reply cache (R174, R185). -/
structure Takes (s : State) (r : Request) (rest : List Request) : Prop where
  running : s.phase = .running
  noHold : s.link.hold = .none
  oldest : s.link.waiting = r :: rest
  fresh : r.retry = false ∨ ∀ e ∈ s.link.cache, e.tag ≠ r.tag

/-- The link is ATTACHED. -/
def Attached (s : State) : Prop := s.link.session.isSome = true

/-- The reply to `r` (R176): its tag and op, RETRY clear. -/
def replyTo (r : Request) (status : Status) (payload : List Byte) : Reply :=
  ⟨r.tag, r.op, status, payload, false⟩

/-- The reply cache once the reply to `r` is its most recent entry, in place of one with the same tag, the least
recent dropped beyond eight (R184). -/
def cacheAfter (r : Request) (reply : Reply) (cache : List CacheEntry) : List CacheEntry :=
  ({ tag := r.tag, fingerprint := r.fingerprint, reply := reply } :: cache.filter fun e => e.tag ≠ r.tag).take 8

/-- `t` is the state a request's own effect gives; the request has left the waiting ones, its reply stands at the tail
of the reply queue, and while the link is ATTACHED it is stored in the cache (R174, R176, R184). -/
def State.replied (t : State) (r : Request) (rest : List Request) (status : Status) (payload : List Byte) : State :=
  { t with
    link :=
      { t.link with
        waiting := rest
        replies := t.link.replies ++ [⟨replyTo r status payload, .nothing⟩]
        cache := if t.link.session.isSome then cacheAfter r (replyTo r status payload) t.link.cache
          else t.link.cache } }

/-- The request operation that a command takes from the intake; none for an event. -/
def requestOf : Instr → Option RequestOp
  | .identify => some .identify
  | .ping => some .ping
  | .attach => some .attach
  | .detach => some .detach
  | .linkConfig => some .linkConfig
  | .linkStats => some .linkStats
  | .restart => some .restart
  | .axisConfig => some .axisConfig
  | .axisRead => some .axisRead
  | .axisSetPosition => some .axisSetPosition
  | .home => some .home
  | .homeCancel => some .homeCancel
  | .stageAdd => some .stageAdd
  | .stageRemove => some .stageRemove
  | .stageClear => some .stageClear
  | .stageCopy => some .stageCopy
  | .schedConfig => some .schedConfig
  | .commit => some .commit
  | .commitCancel => some .commitCancel
  | .schedStart => some .schedStart
  | .schedStop => some .schedStop
  | .schedRead => some .schedRead
  | .entryRead => some .entryRead
  | .outputConfig => some .outputConfig
  | .outputAction => some .outputAction
  | .outputStop => some .outputStop
  | .outputRead => some .outputRead
  | .outputSafe => some .outputSafe
  | .outputRelease => some .outputRelease
  | .triggerConfig => some .triggerConfig
  | .triggerRead => some .triggerRead
  | .routeSet => some .routeSet
  | .routeClear => some .routeClear
  | .routeRead => some .routeRead
  | .captureNow => some .captureNow
  | .recordConfig => some .recordConfig
  | .queueRead => some .queueRead
  | .deliveryConfig => some .deliveryConfig
  | .fetch => some .fetch
  | .timeRead => some .timeRead
  | .timeSet => some .timeSet
  | .syncArm => some .syncArm
  | .syncDisarm => some .syncDisarm
  | .coldReset => none
  | .coldResetComplete => none
  | .warmResetComplete => none
  | .timebaseWrap => none
  | .countEvent _ _ => none
  | .quadratureError _ => none
  | .indexArrival _ => none
  | .leadEnd _ => none
  | .pulseEnd _ => none
  | .gapEnd _ => none
  | .triggerEdge _ _ _ => none
  | .triggerRejectedPulse _ => none
  | .holdoffExpiry _ => none
  | .syncEdge => none
  | .ackTimeout => none
  | .keepaliveExpiry => none
  | .frameReceived _ => none
  | .lengthError _ => none
  | .characterError => none
  | .interByteGap => none
  | .txTakeFrame => none
  | .txFrameComplete => none
  | .characterReceived _ => none
  | .decoderStateChange _ _ => none
  | .unknownOpRequest => none

/-! ### The bytes of request payloads (Tables 10-7 to 10-10) -/

/-- Count mode code (Table 10-1). -/
def CountMode.code : CountMode → Byte
  | .quadX1 => 0#8
  | .quadX2 => 1#8
  | .quadX4 => 2#8
  | .stepDir => 3#8

/-- Axis mode code (Table 10-1). -/
def AxisMode.code : AxisMode → Byte
  | .linear => 0#8
  | .rotary => 1#8

/-- Slip policy code (Table 10-1). -/
def SlipPolicy.code : SlipPolicy → Byte
  | .correct => 0#8
  | .reportOnly => 1#8

/-- Index reporting code (Table 10-1). -/
def IndexReporting.code : IndexReporting → Byte
  | .off => 0#8
  | .slipOnly => 1#8
  | .all => 2#8

/-- Direction qualifier code (Table 10-1). -/
def DirQualifier.code : DirQualifier → Byte
  | .any => 0#8
  | .up => 1#8
  | .down => 2#8

/-- Loss action code (Table 10-1). -/
def LossAction.code : LossAction → Byte
  | .none => 0#8
  | .safeOutputs => 1#8
  | .safeAndStop => 2#8

/-- Baud rate code (Table 10-1). -/
def Baud.code : Baud → Byte
  | .b115200 => 0#8
  | .b230400 => 1#8
  | .b460800 => 2#8
  | .b921600 => 3#8
  | .b1843200 => 4#8
  | .b3000000 => 5#8

/-- The AXIS_CONFIG request (Table 10-7). -/
def axisConfigBytes (n : AxisId) (c : AxisConfig) (m : AxisMode) : List Byte :=
  [byteOf n.val, c.countMode.code, flagByte c.invert, byteOf c.filter, m.code] ++ bytesBE 4 c.cpr
    ++ [byteOf c.tolerance] ++ bytesBE 2 c.slipLimit ++ [c.slipPolicy.code, c.reporting.code, byteOf c.errorLimit]

/-- The configuration items within their ranges (Table 1-1). -/
def AxisConfig.inRange (c : AxisConfig) : Prop :=
  c.filter ≤ 255 ∧ 4 ≤ c.cpr ∧ c.cpr ≤ 16777216 ∧ c.tolerance ≤ 255 ∧ c.slipLimit ≤ 65535 ∧ c.errorLimit ≤ 255

/-- Homing source code (Table 10-1). -/
def HomingSource.code : HomingSource → Byte
  | .index => 0#8
  | .trigger => 1#8
  | .triggerThenIndex => 2#8

/-- The HOME request with its input byte k, which is unused beside source INDEX (Table 10-7). -/
def homeBytes (n : AxisId) (k : Byte) (h : HomingParams) : List Byte :=
  [byteOf n.val, h.source.code, k, h.qualifier.code] ++ wordBytes h.preset

/-- The AXIS_SET_POSITION request, the turn 0 for a LINEAR axis (Table 10-7). -/
def setPositionBytes (n : AxisId) (p : Position) : List Byte :=
  [byteOf n.val] ++ wordBytes p.turn ++ intBytes p.value

/-- The COMMIT request, the position 0 where it is unused (Table 10-7). -/
def commitBytes (n : AxisId) (m : CommitMode) (run : Bool) : List Byte :=
  [byteOf n.val] ++
    (match m with
      | .now => 1#8 :: intBytes 0
      | .atTrigger => 2#8 :: intBytes 0
      | .atPosition p => 3#8 :: intBytes p) ++ [flagByte run]

/-- The STAGE_ADD request (Table 10-7). -/
def stageAddBytes (n : AxisId) (es : List Entry) : List Byte :=
  [byteOf n.val, byteOf es.length] ++ (es.map Entry.encode).flatten

/-- An output action within the ranges of Table 2-1. -/
def OutAction.inRange : OutAction → Prop
  | .timed (.pulse w) => 1 ≤ w ∧ w ≤ 65535
  | .timed (.train w count period) =>
    1 ≤ w ∧ 2 ≤ count ∧ count ≤ 65535 ∧ 2 ≤ period ∧ period ≤ 65535 ∧ w < period
  | .set => True
  | .clear => True
  | .toggle => True

/-- An entry as STAGE_ADD makes one for an axis: every field within Table 2-1, armed no, fire count 0 (R29, R30). -/
def Entry.inRange (a : Axis) (e : Entry) : Prop :=
  1 ≤ e.tag ∧ e.tag ≤ 65535 ∧ -2147483648 ≤ e.position ∧ e.position ≤ 2147483647 ∧ a.inRange e.position = true ∧
    (∀ l act, e.action = some (l, act) → act.inRange) ∧ e.armed = false ∧ e.fires = 0

/-- A route as ROUTE_SET makes one: source and action named, every part in range, counters 0 (R112). -/
def Route.inRange (x : Route) : Prop :=
  x.source ≠ none ∧ (∀ n m, x.source = some (.mark n m) → m ≠ 0) ∧ 1 ≤ x.divider ∧ x.divider ≤ 256 ∧
    x.action ≠ none ∧ (∀ set, x.action = some (.capture set) → set ≠ 0) ∧
    (∀ l act, x.action = some (.output l act) → act.inRange) ∧
    x.counter = 0 ∧ x.matched = 0 ∧ x.acted = 0 ∧ x.shadowed = 0

/-- The ROUTE_SET request (Table 10-8). -/
def routeSetBytes (r : RouteId) (x : Route) : List Byte :=
  [byteOf r.val, flagByte x.enable] ++ sourcePayload x.source ++ bytesBE 2 x.divider
    ++ routeActionPayload x.action

/-- A kind enable is tested, and the record is handed to the queue when it is yes (R134). -/
def RecordQueue.offer (q : RecordQueue) (enable : Bool) (i : Item) : RecordQueue :=
  if enable then q.receive i else q

/-- A schedule once its axis has departed from REFERENCED (R59, R70): RUNNING becomes HELD, and a pending AT_POSITION
commit is cancelled. -/
def Schedule.departed (x : Schedule) : Schedule :=
  { x with
    state := if x.state = .running then .held else x.state
    commit := match x.commit with
      | some (.atPosition _ _) => none
      | c => c }

/-- The queue with the records of that departure: HELD first, then COMMIT_CANCELLED (R59, R70). -/
def RecordQueue.departed (q : RecordQueue) (n : AxisId) (x : Schedule) (time : Ticks) : RecordQueue :=
  let held :=
    if x.state = .running then q.offer q.enables.schedule ⟨.schedule n .held x.active.length, time, []⟩ else q
  match x.commit with
  | some (.atPosition _ _) => held.offer q.enables.schedule ⟨.schedule n .commitCancelled x.active.length, time, []⟩
  | _ => held

/-- No enabled route names the source event. -/
def NoRouteOn (s : State) (e : EventSource) : Prop := ∀ r, (s.route r).hit e = false

/-! ### Frames -/

/-- The moment the keepalive timer expires after a frame has passed its check (R180): a running timer is restarted for
the session's setting, and a stopped one stays stopped. -/
def keepaliveAfterFrame (s : State) : Option Nat :=
  match s.link.keepalive, s.link.session with
  | some _, some p => if p.keepalive = 0 then none else some (s.now + p.keepalive * 100000)
  | k, _ => k

/-- A frame has passed its check (R168, R171): the receiver is in HUNT, and a running keepalive timer is restarted. -/
def State.heard (s : State) : State :=
  { s with link := { s.link with receiver := .hunt, rxLast := s.now, keepalive := keepaliveAfterFrame s } }

/-- `s` is about to receive the last byte of a whole frame whose check passes (R168, R169). -/
structure LastByte (s : State) (len high low : Byte) (body : List Byte) : Prop where
  running : s.phase = .running
  waits : s.link.receiver = .check len body (some high)
  agrees : high ++ low = crc (len :: body)

/-- The frame statistics with one more accepted frame (R188). -/
def LinkStats.accept (t : LinkStats) : LinkStats := { t with framesAccepted := t.framesAccepted + 1#32 }

/-! ### Edges, routes and firings -/

/-- The edge that the next change of the filtered level is (R98). -/
def Trigger.edge (t : Trigger) : Edge :=
  match t.level with
  | .low => .rise
  | .high => .fall

/-- The edge selection selects that edge (R99). -/
def Trigger.Selected (t : Trigger) : Prop :=
  match t.selection, t.level with
  | .both, _ => True
  | .rise, .low => True
  | .fall, .high => True
  | _, _ => False

/-- The input once the edge is accepted at moment `now` (R98, R100). -/
def Trigger.acceptedAt (t : Trigger) (now : Nat) : Trigger :=
  { t with
    level := t.level.flip, accepted := min (t.accepted + 1) 65535
    holdoffEnd := if t.holdoff = 0 then none else some (now + t.holdoff * 100) }

/-- No axis homes on the input. -/
def NoHomingOn (s : State) (k : TriggerId) : Prop :=
  ∀ n, (s.axis n).homing.source = .index ∨ (s.axis n).homing.input ≠ k

/-- The route after an event on which it has acted (R107). -/
def Route.actedOnce (x : Route) : Route :=
  { x with counter := 0, matched := min (x.matched + 1) 65535, acted := min (x.acted + 1) 65535 }

/-- The route after an event on which its action was shadowed (R110). -/
def Route.shadowedOnce (x : Route) : Route :=
  { x with counter := 0, matched := min (x.matched + 1) 65535, shadowed := min (x.shadowed + 1) 65535 }

/-- The route is enabled, has this source and action, and reaches its N at the next matching event (R107). -/
structure Route.Ready (x : Route) (source : RouteSource) (action : RouteAction) : Prop where
  enable : x.enable = true
  source : x.source = some source
  action : x.action = some action
  counter : x.counter + 1 = x.divider

/-- The entry fires at a count that makes the position `p` in direction `d` (R45). -/
def Entry.firesAt (p : Position) (d : Dir) (e : Entry) : Bool :=
  e.armed && decide (e.position = p.value) &&
    match e.dir, d with
    | .either, _ => true
    | .up, .up => true
    | .down, .down => true
    | .up, .down => false
    | .down, .up => false

/-- The first two steps of the firing of an entry of axis n (R47 to R49): its action, then its COMPARE record with the
fire count after the firing. -/
def State.fired (n : AxisId) (d : Dir) (t : State) (e : Entry) : State :=
  let acted := match e.action with
    | some (l, act) => issueAction l act t
    | none => t
  { acted with
    queue := acted.queue.offer e.record
      ⟨.compare e.tag d (min (e.fires + 1) 65535), t.timebase.count, [(t.axis n).posWord n]⟩ }

/-- A list once its firing entries have fired (R51, R52): a ONCE entry has left, a REPEAT entry is counted and
disarmed. -/
def listAfter (fires : Entry → Bool) (es : List Entry) : List Entry :=
  es.filterMap fun e =>
    if fires e then
      match e.retire with
      | .once => none
      | .repeated => some { e with fires := min (e.fires + 1) 65535, armed := false }
    else some e

/-- A list re-armed after a count (R41): a disarmed entry at distance H or more from the axis becomes armed. -/
def listRearmed (x : Axis) (h : Nat) (es : List Entry) : List Entry :=
  es.map fun e => { e with armed := e.armed || decide (h ≤ x.distance e.position) }

/-- A list fully evaluated (R40): each entry is armed just where its distance from the axis is H or more. -/
def listArmed (x : Axis) (h : Nat) (es : List Entry) : List Entry :=
  es.map fun e => { e with armed := decide (h ≤ x.distance e.position) }

/-! ### Runs -/

/-- The state after a list of commands, carried out one after another; none if one of them does not complete. -/
def follow : List Instr → State → Option State
  | [], s => some s
  | c :: cs, s => match exec c s with
    | .next t => follow cs t
    | .fault _ => none
    | .refused _ => none

/-- The events of a TRAIN of `k + 1` pulses on line l, from its first pulse in ACTIVE to its end: each pulse's end,
and between two pulses the end of the GAP. -/
def trainEvents (l : LineId) : Nat → List Instr
  | 0 => [.pulseEnd l]
  | k + 1 => .pulseEnd l :: .gapEnd l :: trainEvents l k

/-! ### Resets -/

/-- Every item of Tables 1-1, 2-1, 3-1, 4-1, 5-1, 5-2, 6-1, 7-2, 8-1 and 9-1 that a reset sets to a value of its own,
with the next sequence number and the baud rate that the reset leaves (R1, R27, R54, R76, R97, R105, R117, R136,
R147, R165). The levels taken from the lines, the Timebase count and HELLO are not among them. -/
def ResetTables (next : Word32) (baud : Baud) (t : State) : Prop :=
  (∀ n, ∃ d, t.axis n =
    { config := ⟨.quadX4, false, 0, 4096, 1, 64, .correct, .off, 16⟩, position := .linear 0, lastDir := .up,
      ref := .unreferenced, homing := ⟨.index, 0, .any, 0#32⟩, errors := 0, lastIndexTurn := 0#32,
      lastIndexValue := 0#32, lastSlip := 0, decoder := d }) ∧
  (∀ n, t.sched n =
    { state := .stopped, h := 1, commit := none, total := 0#32, active := [], staging := [] }) ∧
  t.free = 512 ∧
  (∀ l, t.line l =
    { idle := .low, safeLevel := .low, policy := .queue, report := true, steady := .low, running := none,
      lastPulseEnd := none, waiting := none, drops := 0, preempts := 0 }) ∧
  t.safe = false ∧
  (∀ k, ∃ v, t.trigger k =
    { selection := .off, filter := 0, holdoff := 0, level := v, holdoffEnd := none, accepted := 0,
      filtered := 0, heldOff := 0 }) ∧
  (∀ r, t.route r =
    { enable := false, source := none, divider := 1, counter := 0, action := none, matched := 0, acted := 0,
      shadowed := 0 }) ∧
  t.timebase.arm = none ∧
  t.queue =
    { records := [], next := next, pendingLoss := 0, totalLost := 0, totalAdmitted := 0#32,
      enables := ⟨true, true, true, true⟩ } ∧
  t.delivery =
    { mode := .stream, window := 4, ackTimeout := 200, sendPoint := next, highMark := next, ackTimer := none,
      timeouts := 0, stalled := false, ackErrors := 0 } ∧
  (∃ hello rxLast, t.link =
    { baud := baud, receiver := .hunt, rxLast := rxLast, session := none, keepalive := none, waiting := [],
      hold := .none, replies := [], transmitter := .free, hello := hello, cache := [],
      stats := ⟨0#32, 0, 0, 0, 0, 0, 0, 0, 0⟩ })

/-! ### The relations no step breaks -/

/-- The entries held in all eight lists (R27). -/
def heldEntries (s : State) : Nat :=
  (Config.allAxes.map fun n => (s.sched n).active.length + (s.sched n).staging.length).sum

/-- The free slots and the held entries number 512 (R27). -/
def PoolInv (s : State) : Prop := s.free + heldEntries s = 512

/-- A list is sorted by position ascending, and no two of its entries share a tag (R31). -/
def ListOk (es : List Entry) : Prop :=
  es.Pairwise (fun x y => x.position ≤ y.position) ∧ (es.map Entry.tag).Nodup

/-- Every list is in order (R31), and staging entries keep armed no and fire count 0 (R30). -/
def ListsInv (s : State) : Prop :=
  ∀ n, ListOk (s.sched n).active ∧ ListOk (s.sched n).staging ∧
    ∀ e ∈ (s.sched n).staging, e.armed = false ∧ e.fires = 0

/-- A RUNNING schedule's axis is REFERENCED and its active list is non-empty (R55). -/
def RunningInv (s : State) : Prop :=
  ∀ n, (s.sched n).state = .running → (s.axis n).ref = .referenced ∧ (s.sched n).active ≠ []

/-- A pending action stands only on an occupied line under QUEUE, and none runs or pends while SAFE (R76). -/
def OutputInv (s : State) : Prop :=
  ∀ l, ((s.line l).waiting ≠ none → (s.line l).running ≠ none ∧ (s.line l).policy = .queue) ∧
    (s.safe = true → (s.line l).running = none ∧ (s.line l).waiting = none)

/-- At most 256 records, numbered consecutively up to the next sequence number (R137); losses are pending only
while the queue is full (R142). -/
def QueueInv (q : RecordQueue) : Prop :=
  q.records.length ≤ 256 ∧
  (∀ (i : Nat) (h : i < q.records.length),
    q.records[i].seq = q.next - BitVec.ofNat 32 (q.records.length - i)) ∧
  (q.pendingLoss ≠ 0 → q.records.length = 256)

/-- oldest ≤ send point ≤ high mark ≤ next, the high mark within W of the oldest, and nothing outstanding while
DETACHED (R148); no timer runs in POLL mode, while STALLED or while DETACHED (R152, R154). -/
def DeliveryInv (s : State) : Prop :=
  s.queue.distance s.delivery.sendPoint ≤ s.queue.distance s.delivery.highMark ∧
  s.queue.distance s.delivery.highMark ≤ s.queue.distance s.queue.next ∧
  s.queue.distance s.delivery.highMark ≤ s.delivery.window ∧
  (s.link.session = none → s.queue.distance s.delivery.sendPoint = 0) ∧
  (s.delivery.mode = .poll ∨ s.delivery.stalled = true ∨ s.link.session = none → s.delivery.ackTimer = none)

/-- The reply cache holds at most 8 entries with distinct tags and is empty while DETACHED (R182). -/
def CacheInv (s : State) : Prop :=
  s.link.cache.length ≤ 8 ∧ (s.link.cache.map CacheEntry.tag).Nodup ∧ (s.link.session = none → s.link.cache = [])

/-- The intake holds at most 4 requests, waiting or taken and not yet handed over (R173). -/
def IntakeInv (s : State) : Prop := s.link.waiting.length + s.link.replies.length ≤ 4

/-- A LINEAR position is a signed 32-bit number and an angle lies below CPR, which is 4 to 16,777,216 (Table 1-1). -/
def PositionsInv (s : State) : Prop :=
  ∀ n, 4 ≤ (s.axis n).config.cpr ∧ (s.axis n).config.cpr ≤ 16777216 ∧
    match (s.axis n).position with
    | .linear x => -2147483648 ≤ x ∧ x ≤ 2147483647
    | .rotary _ angle => angle < (s.axis n).config.cpr

/-- The changes of every line are listed earliest first, no two at one moment (the model's form of the lines,
notes/assumptions/8.md). -/
def Wires.Rising (w : Wires) : Prop :=
  (∀ n : AxisId, w.axes[n].a.Pairwise (· < ·) ∧ w.axes[n].b.Pairwise (· < ·) ∧ w.axes[n].index.Pairwise (· < ·)) ∧
  (∀ k : TriggerId, w.triggers[k].Pairwise (· < ·)) ∧ w.sync.Pairwise (· < ·)

/-- The lines of a state are in that form. -/
def WiresInv (s : State) : Prop := s.wires.Rising

/-- Everything a state of the part keeps. -/
structure Inv (s : State) : Prop where
  pool : PoolInv s
  lists : ListsInv s
  running : RunningInv s
  output : OutputInv s
  queue : QueueInv s.queue
  delivery : DeliveryInv s
  cache : CacheInv s
  intake : IntakeInv s
  positions : PositionsInv s
  wires : WiresInv s

end Sys2Proof.Machine
end

