-- ==== Sys2Proof/Certificates/Slice0/Obligations.lean ====
section
/-! DEFINITION. The statements for the provers. A statement about a request names the oldest waiting request `r`
(`Takes s r rest`), and its next state is the request's own effect followed by `State.replied`. Each equality with a
whole next state is a frame: everything it does not write stands as in `s`. -/

open Sys2Proof
open Sys2Proof.Machine

/-! ### The machine -/

/-- A step carries out the command at the front of the queue on the state with the queue's rest. -/
def Obligations.FrontCommandIsCarriedOut : Prop :=
  ∀ (s : State) (c : Instr) (rest : List Instr), s.pending = c :: rest → step s = exec c { s with pending := rest }

/-- COLD_RESET (R190): whatever the state, every block holds its cold reset values, and HELLO is not yet pending. That
the commands that wait keep waiting and the lines keep changing is the model's choice of notes/assumptions/18.md, and
that its time measure `now` runs on that of notes/assumptions/7.md. TX_FRAME_COMPLETE of a RESTART reply (R189): the
warm reset begins. Every block takes its warm reset values, and the Timebase count, the next sequence number and the
baud rate are kept; the waiting commands, the lines and `now` as at a cold reset. -/
def Obligations.ResetsGiveTheResetTables : Prop :=
  (∀ s : State, ∃ t, exec .coldReset s = .next t ∧ t.phase = .coldReset ∧ ResetTables 1#32 .b115200 t ∧
     t.timebase.count = 0#48 ∧ t.link.hello = none ∧ t.pending = s.pending ∧ t.now = s.now ∧ t.wires = s.wires) ∧
  (∀ (s : State) (frame : List Byte), s.phase = .running → s.link.transmitter = .sending frame .warmReset →
     ∃ t, exec .txFrameComplete s = .next t ∧ t.phase = .warmReset ∧ ResetTables s.queue.next s.link.baud t ∧
       t.timebase.count = s.timebase.count ∧ t.link.hello = none ∧ t.pending = s.pending ∧ t.now = s.now ∧
       t.wires = s.wires)

/-- COLD_RESET_COMPLETE and WARM_RESET_COMPLETE (R189, R190, R186): the part runs, the filtered levels are those on
the lines at that moment, a change in progress abandoned (Tables 1-1, 5-1 and 6-1), HELLO is made with the reason and
the next sequence number, and nothing else changes. -/
def Obligations.ResetCompletionTakesTheLinesAndMakesHello : Prop :=
  ∀ (s : State) (warm : Bool), s.phase = (if warm then .warmReset else .coldReset) →
    ∃ t, exec (if warm then .warmResetComplete else .coldResetComplete) s = .next t ∧
      (∀ n, t.axis n = { s.axis n with decoder :=
        ⟨lineLevel s.now (s.axis n).decoder.a (s.axisWires n).a, lineLevel s.now (s.axis n).decoder.b (s.axisWires n).b,
          lineLevel s.now (s.axis n).decoder.index (s.axisWires n).index⟩ }) ∧
      (∀ n, t.axisWires n = ⟨changesAfter s.now (s.axisWires n).a, changesAfter s.now (s.axisWires n).b,
        changesAfter s.now (s.axisWires n).index⟩) ∧
      (∀ k, t.trigger k = { s.trigger k with level := lineLevel s.now (s.trigger k).level (s.triggerWire k) }) ∧
      (∀ k, t.triggerWire k = changesAfter s.now (s.triggerWire k)) ∧ t.wires.sync = changesAfter s.now s.wires.sync ∧
      t = { s with
        phase := .running, wires := t.wires, axes := t.axes, triggers := t.triggers,
        timebase := { s.timebase with syncLevel := lineLevel s.now s.timebase.syncLevel s.wires.sync },
        link := { s.link with hello := some ⟨if warm then .warm else .cold, s.queue.next⟩ } }

/-- The state after reset holds the reset tables with next sequence number 1 at 115,200 baud, count 0, running, HELLO
with reason COLD pending and no command waiting (R186, R190). That the reset is complete and its input lines stood LOW
and stand still is the model's choice of notes/assumptions/1.md. Every relation of the last section holds of it.  -/
def Obligations.ResetStateHoldsTheTablesAndEveryRelation : Prop :=
  (ResetTables 1#32 .b115200 State.reset ∧ State.reset.phase = .running ∧ State.reset.timebase.count = 0#48 ∧
     State.reset.link.hello = some ⟨.cold, 1#32⟩ ∧ State.reset.pending = []) ∧
  (Inv State.reset)

/-- On an empty queue one tick of 10 ns passes: the model's choice of notes/assumptions/2.md; the count's own advance
by 1 is R118's, and that it stands still during a cold reset R117's. TIMEBASE_WRAP (R118): the count becomes 0; only
time has passed, and nothing else changes. That time runs on to the wrap within the command is the model's choice of
notes/assumptions/6.md. The count is moved only by its own advance, by TIME_SET, by a SYNC load and by a cold reset
(R117, R118): any other command leaves the count as far from the running time as it was. -/
def Obligations.TicksTheWrapAndLoadsMoveTheCount : Prop :=
  (∀ s : State, s.pending = [] →
     (s.phase ≠ .coldReset →
       step s = .next { s with now := s.now + 1, timebase := { s.timebase with count := s.timebase.count + 1#48 } }) ∧
     (s.phase = .coldReset → step s = .next { s with now := s.now + 1 })) ∧
  (∀ s : State, s.phase ≠ .coldReset →
     exec .timebaseWrap s = .next { s with
       now := s.now + (2 ^ 48 - s.timebase.count.toNat), timebase := { s.timebase with count := 0#48 } }) ∧
  (∀ (s t : State) (c : Instr), exec c s = .next t → s.phase ≠ .coldReset →
     c ≠ .timeSet → c ≠ .syncEdge → c ≠ .coldReset →
     t.timebase.count - BitVec.ofNat 48 t.now = s.timebase.count - BitVec.ofNat 48 s.now)

/-! ### The Timebase -/

/-- TIME_SET, SYNC_ARM, SYNC_DISARM and TIME_READ (R120, R121, R123): what each writes, what it replies, and no record
and no other change. SYNC_EDGE (R122, R124): when the SYNC line has held its new level for 200 ns the filtered level
changes; an edge of the armed polarity loads the count, disarms, and makes a TIME_SYNC record stamped with the arm
value when the kind is enabled; every other edge does nothing more. Where the line makes no such change, nothing
happens. That a command whose change the line does not make does nothing is the model's choice of
notes/assumptions/3.md; that the change comes at its own moment in the list of the line's changes, to which time runs
on, that of 6.md and 8.md. -/
def Obligations.TimeRequestsAndSyncEdgeLoadTheCount : Prop :=
  (∀ (s : State) (r : Request) (rest : List Request), Takes s r rest → Attached s →
     (∀ b0 b1 b2 b3 b4 b5 : Byte, r.op = 0x61#8 → r.payload = [b0, b1, b2, b3, b4, b5] →
       exec .timeSet s = .next (State.replied
         { s with timebase := { s.timebase with count := b0 ++ b1 ++ b2 ++ b3 ++ b4 ++ b5 } } r rest .ok [])) ∧
     (∀ (b0 b1 b2 b3 b4 b5 : Byte) (edge : Edge), r.op = 0x62#8 →
       r.payload = [b0, b1, b2, b3, b4, b5, edge.code] →
       exec .syncArm s = .next (State.replied
         { s with timebase := { s.timebase with arm := some ⟨b0 ++ b1 ++ b2 ++ b3 ++ b4 ++ b5, edge⟩ } }
         r rest .ok [])) ∧
     (r.op = 0x63#8 → r.payload = [] → s.timebase.arm ≠ none →
       exec .syncDisarm s = .next (State.replied { s with timebase := { s.timebase with arm := none } } r rest .ok [])) ∧
     (r.op = 0x63#8 → r.payload = [] → s.timebase.arm = none →
       exec .syncDisarm s = .next (s.replied r rest .noEntry [])) ∧
     (r.op = 0x60#8 → r.payload = [] →
       exec .timeRead s = .next (s.replied r rest .ok (timePayload s.timebase)))) ∧
  (∀ s : State, s.phase = .running →
     (∀ c, nextHeld 20 s.wires.sync = some c →
       let u := (s.runTo c.time).setSyncWire c.left
       (∀ arm, s.timebase.arm = some arm →
         arm.edge = (match s.timebase.syncLevel with | .low => .rise | .high => .fall) →
         exec .syncEdge s = .next { u with
           timebase := ⟨arm.value, none, s.timebase.syncLevel.flip⟩
           queue := if s.queue.enables.timeSync then s.queue.receive ⟨.timeSync u.timebase.count, arm.value, []⟩
             else s.queue }) ∧
       ((∀ arm, s.timebase.arm = some arm →
           arm.edge ≠ (match s.timebase.syncLevel with | .low => .rise | .high => .fall)) →
         exec .syncEdge s = .next { u with timebase := { u.timebase with syncLevel := s.timebase.syncLevel.flip } })) ∧
     (nextHeld 20 s.wires.sync = none → exec .syncEdge s = .next s))

/-! ### The line filters -/

/-- The axis and SYNC line filters (R2, R122), for lines whose changes are listed in order: the filtered level next
changes f ticks after the first departure from it that lasts that long, at which moment the line still shows the new
level; every departure before it has ended within f ticks, and one that is not followed by such a departure never
changes the filtered level. With f = 0 the first change is passed at once. That a return exactly after the filter time
comes too late is the inference of notes/assumptions/8.md. The trigger filter (R98, R115), for lines whose changes are
listed in order: of the line's first departure, at m, one of two things comes about. It is held for f ticks, and the
filtered level changes at m + f; or the line returns before, and that return is a rejected pulse at its own moment,
after which the next departure is measured afresh. Both are possible just where the return meets the elapsing, at m +
f with f not 0: either may be taken first, and after the elapsing the return is a new departure. With f = 0 no pulse
is rejected. The level of a line and the changes still to come (R103, Tables 1-1, 5-1 and 6-1), for lines whose
changes are listed in order: the level at moment t is the one before the first listed change, turned over once for
each change not later than t. Forgetting the departures that a filter has dropped by t changes neither what that
filter passes nor the level from t on. The next change of the filtered pair of an axis (R2): each line is filtered by
itself with the axis's f; the line whose filter passes a change first changes alone, and both change together when
their filters pass at the same moment. The index line is filtered likewise. -/
def Obligations.LineFiltersPassLevelsThatHold : Prop :=
  (∀ (f : Nat) (level : Level) (w : List Nat), w.Pairwise (· < ·) →
     (∀ c, nextHeld f w = some c → ∃ front m, w = front ++ m :: c.left ∧ c.time = m + f ∧
       lineLevel m level w = level.flip ∧ (∀ t, m ≤ t → t < m + f → lineLevel t level w = level.flip) ∧
       (∀ m' ∈ front, ∃ t, t < m ∧ m' ≤ t ∧ t < m' + max f 1 ∧ lineLevel t level w = level)) ∧
     (nextHeld f w = none → ∀ m' ∈ w, ∃ t, m' ≤ t ∧ t < m' + max f 1 ∧ lineLevel t level w = level)) ∧
  (∀ (f m : Nat) (w : List Nat), (m :: w).Pairwise (· < ·) →
     (∀ c, heldEdge f (m :: w) = some c ↔
       (∀ t level, m ≤ t → t < m + f → lineLevel t level (m :: w) = level.flip) ∧ c = ⟨m + f, w⟩) ∧
     (∀ c, rejectedReturn f (m :: w) = some c ↔ f ≠ 0 ∧ ∃ r, w = r :: c.left ∧ c.time = r ∧ r ≤ m + f) ∧
     (heldEdge f (m :: w) ≠ none ∨ rejectedReturn f (m :: w) ≠ none) ∧
     (heldEdge f (m :: w) ≠ none ∧ rejectedReturn f (m :: w) ≠ none ↔
       f ≠ 0 ∧ w.head? = some (m + f)) ∧
     heldEdge f [] = none ∧ rejectedReturn f [] = none) ∧
  (∀ (t : Nat) (level : Level) (w : List Nat), w.Pairwise (· < ·) →
     lineLevel t level w = (if (w.countP fun m => m ≤ t) % 2 = 0 then level else level.flip) ∧
     changesAfter t w = (w.filter fun m => t < m) ∧
     (∀ f, nextHeld f (dropReturned f t w) = nextHeld f w ∧
       ∀ u, t ≤ u → lineLevel u level (dropReturned f t w) = lineLevel u level w)) ∧
  (∀ (s : State) (n : AxisId),
     let f := (s.axis n).config.filter
     let d := (s.axis n).decoder
     let w := s.axisWires n
     s.nextIndex n = nextHeld f w.index ∧
     (nextHeld f w.a = none → nextHeld f w.b = none → s.nextPair n = none) ∧
     (∀ x, nextHeld f w.a = some x → (∀ y, nextHeld f w.b = some y → x.time < y.time) →
       s.nextPair n = some ⟨x.time, d.a.flip, d.b, ⟨x.left, w.b, w.index⟩⟩) ∧
     (∀ y, nextHeld f w.b = some y → (∀ x, nextHeld f w.a = some x → y.time < x.time) →
       s.nextPair n = some ⟨y.time, d.a, d.b.flip, ⟨w.a, y.left, w.index⟩⟩) ∧
     (∀ x y, nextHeld f w.a = some x → nextHeld f w.b = some y → x.time = y.time →
       s.nextPair n = some ⟨x.time, d.a.flip, d.b.flip, ⟨x.left, y.left, w.index⟩⟩))

/-! ### The Axis Counters -/

/-- The count that a change of the filtered pair gives, before inversion (R3 with Table 1-2, and R5): written out for
the four modes. DECODER_STATE_CHANGE (R3, R5, R13): a change of the pair that gives no count and no quadrature error,
and a fall of the index line, are taken at their moment: the decoder holds the new levels, the line has that change
behind it, and nothing else changes. The change comes at its own moment, to which time runs on (notes/assumptions/6.md
and 8.md). -/
def Obligations.CountTableIsFollowedAndOtherLevelsAreTaken : Prop :=
  ((∀ a b a' b' : Level, rawCount .quadX4 a b a' b' =
     if (a, b, a', b') = (.low, .low, .high, .low) ∨ (a, b, a', b') = (.high, .low, .high, .high) ∨
        (a, b, a', b') = (.high, .high, .low, .high) ∨ (a, b, a', b') = (.low, .high, .low, .low) then some .up
     else if (a, b, a', b') = (.high, .low, .low, .low) ∨ (a, b, a', b') = (.high, .high, .high, .low) ∨
        (a, b, a', b') = (.low, .high, .high, .high) ∨ (a, b, a', b') = (.low, .low, .low, .high) then some .down
     else none) ∧
   (∀ a b a' b' : Level, rawCount .quadX2 a b a' b' =
     if (a, b, a', b') = (.low, .low, .high, .low) ∨ (a, b, a', b') = (.high, .high, .low, .high) then some .up
     else if (a, b, a', b') = (.high, .low, .low, .low) ∨ (a, b, a', b') = (.low, .high, .high, .high) then some .down
     else none) ∧
   (∀ a b a' b' : Level, rawCount .quadX1 a b a' b' =
     if (a, b, a', b') = (.low, .low, .high, .low) then some .up
     else if (a, b, a', b') = (.high, .low, .low, .low) then some .down else none) ∧
   (∀ a b a' b' : Level, rawCount .stepDir a b a' b' =
     if a = .low ∧ a' = .high then (if b' = .high then some .up else some .down) else none)) ∧
  (∀ (s : State) (n : AxisId), s.phase = .running →
     (∀ c, s.nextPair n = some c →
       rawCount (s.axis n).config.countMode (s.axis n).decoder.a (s.axis n).decoder.b c.a c.b = none →
       (s.axis n).config.countMode = .stepDir ∨ (s.axis n).decoder.a = c.a ∨ (s.axis n).decoder.b = c.b →
       exec (.decoderStateChange n .pair) s = .next { s.runTo c.time with
         wires := { s.wires with axes := s.wires.axes.set n c.wires }
         axes := s.axes.set n { s.axis n with decoder := ⟨c.a, c.b, (s.axis n).decoder.index⟩ } }) ∧
     (∀ c, s.nextIndex n = some c → (s.axis n).decoder.index = .high →
       exec (.decoderStateChange n .index) s = .next { s.runTo c.time with
         wires := { s.wires with axes := s.wires.axes.set n { s.axisWires n with index := c.left } }
         axes := s.axes.set n { s.axis n with decoder := { (s.axis n).decoder with index := .low } } }))

/-- COUNT_EVENT on an axis whose schedule is STOPPED or HELD, with no AT_POSITION commit at the new position (R6, R7,
R8, R43): the position moves by one in the direction after inversion, the last direction is set, the decoder takes the
pair at its moment, and nothing else changes. The change comes at its own moment, to which time runs on
(notes/assumptions/6.md and 8.md). COUNT_EVENT refused at a LINEAR limit (R7, R12): the position and the last
direction stay. A LOST axis only takes the pair; any other becomes LOST with reason OVERRANGE and an AXIS record, and
a REFERENCED one departs: a RUNNING schedule is HELD with its record, and a pending AT_POSITION commit is cancelled
with its record after it (R59, R70); then AXIS_LOST(n) goes to the Route Table. That the records of the departure
stand before those of the actions on AXIS_LOST(n) is the model's choice of notes/assumptions/19.md. -/
def Obligations.CountMovesThePositionOrIsRefused : Prop :=
  (∀ (s : State) (n : AxisId) (takes : List Nat) (c : PairChange) (raw d : Dir) (p : Position),
     s.phase = .running → s.nextPair n = some c →
     rawCount (s.axis n).config.countMode (s.axis n).decoder.a (s.axis n).decoder.b c.a c.b = some raw →
     d = (if (s.axis n).config.invert then (match raw with | .up => .down | .down => .up) else raw) →
     (match (s.axis n).position, d with
       | .linear x, .up => -2147483648 ≤ x + 1 ∧ x + 1 ≤ 2147483647 ∧ p = .linear (x + 1)
       | .linear x, .down => -2147483648 ≤ x - 1 ∧ x - 1 ≤ 2147483647 ∧ p = .linear (x - 1)
       | .rotary turn angle, .up =>
         p = if angle + 1 = (s.axis n).config.cpr then .rotary (turn + 1#32) 0 else .rotary turn (angle + 1)
       | .rotary turn angle, .down =>
         p = if angle = 0 then .rotary (turn - 1#32) ((s.axis n).config.cpr - 1) else .rotary turn (angle - 1)) →
     (s.sched n).state ≠ .running →
     (∀ run, (s.sched n).commit ≠ some (.atPosition p.value run)) →
     exec (.countEvent n takes) s = .next ((s.takePair n c).setAxis n
       { s.axis n with
         position := p, lastDir := d, decoder := { (s.axis n).decoder with a := c.a, b := c.b } })) ∧
  (∀ (s : State) (n : AxisId) (takes : List Nat) (c : PairChange) (raw : Dir) (x : Int),
     s.phase = .running → s.nextPair n = some c →
     rawCount (s.axis n).config.countMode (s.axis n).decoder.a (s.axis n).decoder.b c.a c.b = some raw →
     (s.axis n).position = .linear x →
     (if (s.axis n).config.invert then (match raw with | .up => .down | .down => .up) else raw) =
       (if x = 2147483647 then Dir.up else Dir.down) →
     x = 2147483647 ∨ x = -2147483648 →
     let u := s.takePair n c
     let lost : Axis :=
       { s.axis n with ref := .lost .overrange, decoder := { (s.axis n).decoder with a := c.a, b := c.b } }
     let reported := s.queue.offer s.queue.enables.axis
       ⟨.axis (.lost .overrange) (.lost .overrange) (s.axis n).errors, u.timebase.count,
         [⟨n, 0#32, BitVec.ofInt 32 x⟩]⟩
     (∀ reason, (s.axis n).ref = .lost reason → exec (.countEvent n takes) s = .next u) ∧
     ((s.axis n).ref = .unreferenced ∨ (∃ sub, (s.axis n).ref = .seeking sub) →
       exec (.countEvent n takes) s = .next (sendEvent (.axisLost n) u.timebase.count
         { u with axes := s.axes.set n lost, queue := reported })) ∧
     ((s.axis n).ref = .referenced →
       exec (.countEvent n takes) s = .next (sendEvent (.axisLost n) u.timebase.count
         { u with
           axes := s.axes.set n lost
           scheds := s.scheds.set n (s.sched n).departed
           queue := reported.departed n (s.sched n) u.timebase.count })))

/-- QUADRATURE_ERROR that does not reach the limit of a REFERENCED axis (R4, R11): both filtered levels change
together, the error count rises by 1, staying at 65,535, the decoder takes the changed pair, and nothing else changes;
in STEP_DIR nothing changes. The change comes at its own moment, to which time runs on (notes/assumptions/6.md and
8.md). QUADRATURE_ERROR that raises the count of a REFERENCED axis to E (R11, R12, R59, R70): the axis is LOST with an
AXIS record, and its schedule departs: a RUNNING one is HELD with its record, and a pending AT_POSITION commit is
cancelled with its record after it; then AXIS_LOST(n) goes to the Route Table. The position, the lists and the armed
flags stay. That the records of the departure stand before those of the actions on AXIS_LOST(n) is the model's choice
of notes/assumptions/19.md. -/
def Obligations.QuadratureErrorsAreCountedUpToTheLimit : Prop :=
  (∀ (s : State) (n : AxisId) (c : PairChange), s.phase = .running → s.nextPair n = some c →
     ((s.axis n).config.countMode ≠ .stepDir → c.a ≠ (s.axis n).decoder.a → c.b ≠ (s.axis n).decoder.b →
       ¬((s.axis n).ref = .referenced ∧ (s.axis n).config.errorLimit ≠ 0 ∧
         min ((s.axis n).errors + 1) 65535 = (s.axis n).config.errorLimit) →
       exec (.quadratureError n) s = .next ((s.takePair n c).setAxis n
         { s.axis n with
           errors := min ((s.axis n).errors + 1) 65535
           decoder := ⟨c.a, c.b, (s.axis n).decoder.index⟩ })) ∧
     ((s.axis n).config.countMode = .stepDir → exec (.quadratureError n) s = .next s)) ∧
  (∀ (s : State) (n : AxisId) (c : PairChange), s.phase = .running → s.nextPair n = some c →
     (s.axis n).config.countMode ≠ .stepDir → c.a ≠ (s.axis n).decoder.a → c.b ≠ (s.axis n).decoder.b →
     (s.axis n).ref = .referenced →
     (s.axis n).config.errorLimit ≠ 0 → (s.axis n).config.errorLimit ≤ 255 →
     (s.axis n).errors + 1 = (s.axis n).config.errorLimit →
     let u := s.takePair n c
     exec (.quadratureError n) s = .next (sendEvent (.axisLost n) u.timebase.count
       { u with
         axes := s.axes.set n
           { s.axis n with
             ref := .lost .quadErrors, errors := (s.axis n).config.errorLimit
             decoder := ⟨c.a, c.b, (s.axis n).decoder.index⟩ }
         scheds := s.scheds.set n (s.sched n).departed
         queue :=
           (s.queue.offer s.queue.enables.axis
             ⟨.axis (.lost .quadErrors) (.lost .quadErrors) (s.axis n).config.errorLimit, u.timebase.count,
               [(s.axis n).posWord n]⟩).departed n (s.sched n) u.timebase.count }))

/-- INDEX_ARRIVAL, unchecked and not completing homing (R13, R17, R18, R20): the filtered index line rises, the last
index position and the last slip 0 are noted, an INDEX record is made under reporting ALL only, with the time of the
arrival, and INDEX(n) goes to the Route Table with that time; nothing else changes. Homing ignores it in AWAIT_GATE,
under source TRIGGER and in a direction that is not accepted, and the axis stays SEEKING. The change comes at its own
moment, to which time runs on (notes/assumptions/6.md and 8.md). INDEX_ARRIVAL, checked (R13 to R18): with slip v the
deviation of the angle from 0, a clean arrival and one under REPORT_ONLY leave the position; under CORRECT the angle
becomes 0 and a negative slip adds 1 to the turn, and a RUNNING schedule re-evaluates its armed flags (R42); beyond
the limit the axis is LOST, its schedule departs, and AXIS_LOST(n) goes to the Route Table. INDEX(n) goes there last,
with the time of the arrival. The INDEX record stands before every other record of the arrival. That the records of
the departure stand before those of the actions on AXIS_LOST(n) is the model's choice of notes/assumptions/19.md. A
slip lies above −CPR/2 and at most at CPR/2 (R14), and the corrected position of R16 is the one nearest to the old,
counting turn × CPR + angle without the wrap of the turn. -/
def Obligations.IndexArrivalIsNotedAndJudgedBySlip : Prop :=
  (∀ (s : State) (n : AxisId) (c : LineChange), s.phase = .running → (s.axis n).decoder.index = .low →
     s.nextIndex n = some c →
     ((s.axis n).ref = .seeking .awaitReference → (s.axis n).homing.source = .trigger ∨
       ((s.axis n).homing.qualifier = .up ∧ (s.axis n).lastDir = .down) ∨
       ((s.axis n).homing.qualifier = .down ∧ (s.axis n).lastDir = .up)) →
     ((s.axis n).ref = .referenced → (s.axis n).position.mode = .linear) →
     let u := s.takeIndex n c
     let time := u.timebase.count - BitVec.ofNat 48 (s.axis n).config.filter
     exec (.indexArrival n) s = .next (sendEvent (.index n) time
       { u with
         axes := s.axes.set n
           { s.axis n with
             decoder := { (s.axis n).decoder with index := .high }
             lastIndexTurn := (s.axis n).position.turn
             lastIndexValue := BitVec.ofInt 32 (s.axis n).position.value
             lastSlip := 0 }
         queue := s.queue.offer (decide ((s.axis n).config.reporting = .all))
           ⟨.index 0 false false, time, [(s.axis n).posWord n]⟩ })) ∧
  (∀ (s : State) (n : AxisId) (c : LineChange) (turn : Word32) (angle : Nat) (v : Int), s.phase = .running →
     (s.axis n).decoder.index = .low → s.nextIndex n = some c →
     (s.axis n).ref = .referenced → (s.axis n).position = .rotary turn angle →
     v = (if 2 * angle ≤ (s.axis n).config.cpr then (angle : Int) else (angle : Int) - (s.axis n).config.cpr) →
     let u := s.takeIndex n c
     let x := s.axis n
     let time := u.timebase.count - BitVec.ofNat 48 x.config.filter
     let clean := v.natAbs ≤ x.config.tolerance
     let beyond := ¬clean ∧ x.config.slipLimit ≠ 0 ∧ x.config.slipLimit < v.natAbs
     let corrected := ¬clean ∧ ¬beyond ∧ x.config.slipPolicy = .correct
     let noted : Axis :=
       { x with
         decoder := { x.decoder with index := .high }
         lastIndexTurn := turn, lastIndexValue := BitVec.ofInt 32 angle, lastSlip := v }
     let reported := s.queue.offer
       (match x.config.reporting with | .off => false | .all => true | .slipOnly => decide (¬clean))
       ⟨.index v (decide corrected) (decide clean), time, [⟨n, turn, BitVec.ofInt 32 angle⟩]⟩
     (¬beyond → ¬corrected →
       exec (.indexArrival n) s = .next (sendEvent (.index n) time
         { u with axes := s.axes.set n noted, queue := reported })) ∧
     (corrected →
       let moved : Axis := { noted with position := .rotary (if v < 0 then turn + 1#32 else turn) 0 }
       exec (.indexArrival n) s = .next (sendEvent (.index n) time
         { u with
           axes := s.axes.set n moved
           queue := reported
           scheds := if (s.sched n).state = .running then
               s.scheds.set n { s.sched n with active := (s.sched n).active.map fun e =>
                 { e with armed := decide ((s.sched n).h ≤ moved.distance e.position) } }
             else s.scheds })) ∧
     (beyond →
       exec (.indexArrival n) s = .next (sendEvent (.index n) time (sendEvent (.axisLost n) u.timebase.count
         { u with
           axes := s.axes.set n { noted with ref := .lost .slip }
           scheds := s.scheds.set n (s.sched n).departed
           queue := (reported.offer reported.enables.axis
             ⟨.axis (.lost .slip) (.lost .slip) x.errors, u.timebase.count,
               [⟨n, turn, BitVec.ofInt 32 angle⟩]⟩).departed n (s.sched n) u.timebase.count })))) ∧
  (∀ (cpr angle : Nat) (turn k : Int), 4 ≤ cpr → angle < cpr →
     -(cpr : Int) < 2 * slipOf cpr angle ∧ 2 * slipOf cpr angle ≤ cpr ∧
     let old := turn * cpr + angle
     let new := (turn + if slipOf cpr angle < 0 then 1 else 0) * cpr
     (new - old).natAbs ≤ (k * cpr - old).natAbs)

/-- An accepted INDEX completes homing (R20, R21): the preset becomes the position, the axis is REFERENCED with error
count 0, and an AXIS record HOMED carries the new position; the INDEX record of reporting ALL stands before it (R17,
R18); no entry fires, and INDEX(n) goes to the Route Table last. An accepted edge at the axes homing on its input
(R20, R102), with no route on the edge and the axis taking it in either place, under every selection that selects it
and every holdoff: it opens the gate of TRIGGER_THEN_INDEX without a record, and completes TRIGGER homing of a LINEAR
or ROTARY axis in an accepted direction with the preset, REFERENCED, error count 0 and an AXIS record HOMED. Homing
ignores it on an axis that is not SEEKING, in AWAIT_REFERENCE under TRIGGER_THEN_INDEX, and under TRIGGER in a
direction that is not accepted. The change comes at its own moment, to which time runs on (notes/assumptions/6.md and
8.md). -/
def Obligations.HomingCompletesOnItsIndexOrTriggerEdge : Prop :=
  (∀ (s : State) (n : AxisId) (c : LineChange), s.phase = .running → (s.axis n).decoder.index = .low →
     s.nextIndex n = some c → (s.axis n).ref = .seeking .awaitReference →
     (s.axis n).homing.source = .index ∨ (s.axis n).homing.source = .triggerThenIndex →
     (match (s.axis n).homing.qualifier, (s.axis n).lastDir with
       | .any, _ => True | .up, .up => True | .down, .down => True | _, _ => False) →
     (s.sched n).state ≠ .running →
     let u := s.takeIndex n c
     let time := u.timebase.count - BitVec.ofNat 48 (s.axis n).config.filter
     let p : Position := match (s.axis n).position with
       | .linear _ => .linear (s.axis n).homing.preset.toInt
       | .rotary _ _ => .rotary (s.axis n).homing.preset 0
     let reported := s.queue.offer (decide ((s.axis n).config.reporting = .all))
       ⟨.index 0 false false, time, [(s.axis n).posWord n]⟩
     exec (.indexArrival n) s = .next (sendEvent (.index n) time
       { u with
         axes := s.axes.set n
           { s.axis n with
             position := p, ref := .referenced, errors := 0
             decoder := { (s.axis n).decoder with index := .high }
             lastIndexTurn := (s.axis n).position.turn
             lastIndexValue := BitVec.ofInt 32 (s.axis n).position.value
             lastSlip := 0 }
         queue := reported.offer s.queue.enables.axis
           ⟨.axis .referenced .homed 0, u.timebase.count, [⟨n, p.turn, BitVec.ofInt 32 p.value⟩]⟩ })) ∧
  (∀ (s : State) (k : TriggerId) (n : AxisId) (first : Bool) (c : LineChange), s.phase = .running →
     heldEdge ((s.trigger k).filter * 10) (s.triggerWire k) = some c →
     (∀ edge, NoRouteOn s (.trig k edge)) → (s.trigger k).Selected → (s.trigger k).holdoffEnd = none →
     (∀ m, m ≠ n → (s.axis m).homing.source = .index ∨ (s.axis m).homing.input ≠ k) → (s.axis n).homing.input = k →
     let before := if first then [n] else []
     let after := if first then [] else [n]
     let u := (s.runTo c.time).setTriggerWire k c.left
     let turned := s.triggers.set k ((s.trigger k).acceptedAt u.now)
     ((∀ sub, (s.axis n).ref ≠ .seeking sub) ∨
         ((s.axis n).ref = .seeking .awaitReference ∧ (s.axis n).homing.source = .triggerThenIndex) ∨
         ((s.axis n).ref = .seeking .awaitReference ∧ (s.axis n).homing.source = .trigger ∧
           (((s.axis n).homing.qualifier = .up ∧ (s.axis n).lastDir = .down) ∨
             ((s.axis n).homing.qualifier = .down ∧ (s.axis n).lastDir = .up))) →
       exec (.triggerEdge k before after) s = .next { u with triggers := turned }) ∧
     ((s.axis n).ref = .seeking .awaitGate → (s.axis n).homing.source = .triggerThenIndex →
       exec (.triggerEdge k before after) s = .next { u with
         triggers := turned, axes := s.axes.set n { s.axis n with ref := .seeking .awaitReference } }) ∧
     ((s.axis n).ref = .seeking .awaitReference → (s.axis n).homing.source = .trigger →
       (s.sched n).state ≠ .running →
       (match (s.axis n).homing.qualifier, (s.axis n).lastDir with
         | .any, _ => True | .up, .up => True | .down, .down => True | _, _ => False) →
       let p : Position := match (s.axis n).position with
         | .linear _ => .linear (s.axis n).homing.preset.toInt
         | .rotary _ _ => .rotary (s.axis n).homing.preset 0
       exec (.triggerEdge k before after) s = .next { u with
         triggers := turned
         axes := s.axes.set n { s.axis n with ref := .referenced, errors := 0, position := p }
         queue := s.queue.offer s.queue.enables.axis
           ⟨.axis .referenced .homed 0, u.timebase.count, [⟨n, p.turn, BitVec.ofInt 32 p.value⟩]⟩ }))

/-- AXIS_CONFIG, AXIS_SET_POSITION of an axis whose schedule is not RUNNING, HOME of an axis that is not REFERENCED,
and HOME_CANCEL (R19, R22, R23, R24): what each writes and the record it makes. AXIS_CONFIG and HOME_CANCEL are
refused with WRONG_STATE where the spec says so, and nothing changes. That a departure of a line which the old filter
setting has dropped stays dropped is the model's choice of notes/assumptions/8.md; that the AXIS record of an
AXIS_CONFIG stands before the COMMIT_CANCELLED record of its departure is the inference of notes/assumptions/16.md.
HOME of a REFERENCED axis departs (R19, R59, R70), whatever its schedule: the axis is SEEKING, a RUNNING schedule is
HELD with its record, and a pending AT_POSITION commit is cancelled with its record after it; no AXIS record is made.
AXIS_SET_POSITION under a RUNNING schedule (R23, R42): the schedule stays RUNNING, every armed flag is evaluated
against the new position, nothing fires, and a pending commit survives. -/
def Obligations.AxisRequestsSetTheReferenceAndReachTheSchedule : Prop :=
  (∀ (s : State) (r : Request) (rest : List Request) (n : AxisId), Takes s r rest → Attached s →
     (∀ (c : AxisConfig) (m : AxisMode), r.op = 0x10#8 → r.payload.length = 15 →
       readAxisConfig s r.payload = some (n, c, m) →
       ((s.sched n).state = .stopped → (s.sched n).active = [] → (s.sched n).staging = [] →
         let zero : Position := match m with | .linear => .linear 0 | .rotary => .rotary 0#32 0
         let reported := s.queue.offer s.queue.enables.axis
           ⟨.axis .unreferenced .config 0, s.timebase.count, [⟨n, 0#32, 0#32⟩]⟩
         exec .axisConfig s = .next (State.replied
           { s.forgetReturned n with
             axes := s.axes.set n
               { s.axis n with
                 config := c, position := zero, lastDir := .up, ref := .unreferenced, errors := 0
                 lastIndexTurn := 0#32, lastIndexValue := 0#32, lastSlip := 0 }
             scheds := if (s.axis n).ref = .referenced then s.scheds.set n (s.sched n).departed else s.scheds
             queue := if (s.axis n).ref = .referenced then reported.departed n (s.sched n) s.timebase.count
               else reported } r rest .ok [])) ∧
       ((s.sched n).state ≠ .stopped ∨ (s.sched n).active ≠ [] ∨ (s.sched n).staging ≠ [] →
         exec .axisConfig s = .next (s.replied r rest .wrongState []))) ∧
     (∀ p : Position, r.op = 0x12#8 → r.payload.length = 9 → readSetPosition s r.payload = some (n, p) →
       (s.sched n).state ≠ .running →
       exec .axisSetPosition s = .next (State.replied
         { s with
           axes := s.axes.set n { s.axis n with position := p, ref := .referenced, errors := 0 }
           queue := s.queue.offer s.queue.enables.axis
             ⟨.axis .referenced .set 0, s.timebase.count, [⟨n, p.turn, BitVec.ofInt 32 p.value⟩]⟩ }
         r rest .ok [])) ∧
     (∀ h : HomingParams, r.op = 0x13#8 → r.payload.length = 8 → readHome s r.payload = some (n, h) →
       (s.axis n).ref ≠ .referenced →
       exec .home s = .next (State.replied
         (s.setAxis n { s.axis n with
           homing := h
           ref := .seeking (match h.source with | .triggerThenIndex => .awaitGate | _ => .awaitReference) })
         r rest .accepted [])) ∧
     (r.op = 0x14#8 → r.payload = [byteOf n.val] →
       (∀ sub, (s.axis n).ref = .seeking sub →
         exec .homeCancel s = .next (State.replied
           { s with
             axes := s.axes.set n { s.axis n with ref := .unreferenced }
             queue := s.queue.offer s.queue.enables.axis
               ⟨.axis .unreferenced .homeCancelled (s.axis n).errors, s.timebase.count,
                 [(s.axis n).posWord n]⟩ } r rest .ok [])) ∧
       ((∀ sub, (s.axis n).ref ≠ .seeking sub) →
         exec .homeCancel s = .next (s.replied r rest .wrongState [])))) ∧
  (∀ (s : State) (r : Request) (rest : List Request) (n : AxisId) (h : HomingParams),
     Takes s r rest → Attached s → r.op = 0x13#8 → r.payload.length = 8 →
     readHome s r.payload = some (n, h) → (s.axis n).ref = .referenced →
     exec .home s = .next (State.replied
       { s with
         axes := s.axes.set n { s.axis n with
           homing := h
           ref := .seeking (match h.source with | .triggerThenIndex => .awaitGate | _ => .awaitReference) }
         scheds := s.scheds.set n (s.sched n).departed
         queue := s.queue.departed n (s.sched n) s.timebase.count }
       r rest .accepted [])) ∧
  (∀ (s : State) (r : Request) (rest : List Request) (n : AxisId) (p : Position),
     Takes s r rest → Attached s → r.op = 0x12#8 → r.payload.length = 9 →
     readSetPosition s r.payload = some (n, p) → (s.sched n).state = .running →
     let placed : Axis := { s.axis n with position := p, ref := .referenced, errors := 0 }
     exec .axisSetPosition s = .next (State.replied
       { s with
         axes := s.axes.set n placed
         scheds := s.scheds.set n { s.sched n with active := (s.sched n).active.map fun e =>
           { e with armed := decide ((s.sched n).h ≤ placed.distance e.position) } }
         queue := s.queue.offer s.queue.enables.axis
           ⟨.axis .referenced .set 0, s.timebase.count, [⟨n, p.turn, BitVec.ofInt 32 p.value⟩]⟩ }
       r rest .ok []))

/-! ### Compare entries and schedules -/

/-- STAGE_REMOVE (R35), for every axis, tag and state. STAGE_CLEAR (R36), for every axis and state. STAGE_COPY (R37),
for every axis and state. -/
def Obligations.StagingRemovesClearsAndCopies : Prop :=
  (∀ (s : State) (r : Request) (rest : List Request) (n : AxisId) (t0 t1 : Byte),
     Takes s r rest → Attached s → r.op = 0x21#8 → r.payload = [byteOf n.val, t0, t1] →
     let tag := t0.toNat * 256 + t1.toNat
     let counts (c f : Nat) := bytesBE 2 c ++ bytesBE 2 f
     (tag = 0 → exec .stageRemove s = .next (s.replied r rest .badParam [])) ∧
     (tag ≠ 0 → (s.sched n).commit ≠ none →
       exec .stageRemove s = .next (s.replied r rest .wrongState (counts (s.sched n).staging.length s.free))) ∧
     (tag ≠ 0 → (s.sched n).commit = none → (∀ e ∈ (s.sched n).staging, e.tag ≠ tag) →
       exec .stageRemove s = .next (s.replied r rest .noEntry (counts (s.sched n).staging.length s.free))) ∧
     (∀ (front back : List Entry) (e : Entry), tag ≠ 0 → (s.sched n).commit = none →
       (s.sched n).staging = front ++ e :: back → e.tag = tag → (∀ x ∈ front, x.tag ≠ tag) →
       exec .stageRemove s = .next (State.replied
         { s with free := s.free + 1, scheds := s.scheds.set n { s.sched n with staging := front ++ back } }
         r rest .ok (counts (front.length + back.length) (s.free + 1))))) ∧
  (∀ (s : State) (r : Request) (rest : List Request) (n : AxisId),
     Takes s r rest → Attached s → r.op = 0x22#8 → r.payload = [byteOf n.val] →
     ((s.sched n).commit ≠ none →
       exec .stageClear s = .next (s.replied r rest .wrongState
         (bytesBE 2 (s.sched n).staging.length ++ bytesBE 2 s.free))) ∧
     ((s.sched n).commit = none →
       exec .stageClear s = .next (State.replied
         { s with
           free := s.free + (s.sched n).staging.length
           scheds := s.scheds.set n { s.sched n with staging := [] } }
         r rest .ok (bytesBE 2 0 ++ bytesBE 2 (s.free + (s.sched n).staging.length))))) ∧
  (∀ (s : State) (r : Request) (rest : List Request) (n : AxisId),
     Takes s r rest → Attached s → r.op = 0x23#8 → r.payload = [byteOf n.val] →
     ((s.sched n).commit ≠ none →
       exec .stageCopy s = .next (s.replied r rest .wrongState
         (bytesBE 2 (s.sched n).staging.length ++ bytesBE 2 s.free))) ∧
     ((s.sched n).commit = none → s.free + (s.sched n).staging.length < (s.sched n).active.length →
       exec .stageCopy s = .next (s.replied r rest .noSpace
         (bytesBE 2 (s.sched n).staging.length ++ bytesBE 2 s.free))) ∧
     ((s.sched n).commit = none → (s.sched n).active.length ≤ s.free + (s.sched n).staging.length →
       exec .stageCopy s = .next (State.replied
         { s with
           free := s.free + (s.sched n).staging.length - (s.sched n).active.length
           scheds := s.scheds.set n { s.sched n with
             staging := (s.sched n).active.map fun e => { e with armed := false, fires := 0 } } }
         r rest .ok (bytesBE 2 (s.sched n).active.length
           ++ bytesBE 2 (s.free + (s.sched n).staging.length - (s.sched n).active.length)))))

/-- STAGE_ADD of one entry (R32, R34): it takes a slot and the place after every staging entry whose position is less
than or equal to its own; the checks stand in the order commit pending, tag, space. STAGE_ADD of a batch adds all or
none (R32, R34). It is refused by the first of these that holds: a commit is pending; a tag of the batch stands in the
staging list or twice in the batch; the free count is less than the batch. Otherwise every entry of the batch takes a
slot, the staging list stays sorted by position, and at each position the entries already there come first and those
of the batch follow in batch order. -/
def Obligations.StageAddIsPlacedAllOrNone : Prop :=
  (∀ (s : State) (r : Request) (rest : List Request) (n : AxisId) (e : Entry),
     Takes s r rest → Attached s → r.op = 0x20#8 → r.payload.length = 16 →
     readStageAdd s r.payload = some (n, [e]) →
     ((s.sched n).commit ≠ none →
       exec .stageAdd s = .next (s.replied r rest .wrongState
         (bytesBE 2 (s.sched n).staging.length ++ bytesBE 2 s.free))) ∧
     ((s.sched n).commit = none → (∃ x ∈ (s.sched n).staging, x.tag = e.tag) →
       exec .stageAdd s = .next (s.replied r rest .dupTag
         (bytesBE 2 (s.sched n).staging.length ++ bytesBE 2 s.free))) ∧
     ((s.sched n).commit = none → (∀ x ∈ (s.sched n).staging, x.tag ≠ e.tag) → s.free = 0 →
       exec .stageAdd s = .next (s.replied r rest .noSpace
         (bytesBE 2 (s.sched n).staging.length ++ bytesBE 2 s.free))) ∧
     (∀ below above : List Entry, (s.sched n).commit = none → (∀ x ∈ (s.sched n).staging, x.tag ≠ e.tag) →
       s.free ≠ 0 → (s.sched n).staging = below ++ above → (∀ x ∈ below, x.position ≤ e.position) →
       (∀ x ∈ above, e.position < x.position) →
       exec .stageAdd s = .next (State.replied
         { s with
           free := s.free - 1
           scheds := s.scheds.set n { s.sched n with staging := below ++ e :: above } }
         r rest .ok (bytesBE 2 (below.length + above.length + 1) ++ bytesBE 2 (s.free - 1))))) ∧
  (∀ (s : State) (r : Request) (rest : List Request) (n : AxisId) (batch : List Entry),
     Takes s r rest → Attached s → r.op = 0x20#8 → r.payload.length = 2 + 14 * batch.length →
     readStageAdd s r.payload = some (n, batch) →
     (s.sched n).staging.Pairwise (fun x y => x.position ≤ y.position) →
     let tags := (s.sched n).staging.map Entry.tag
     let clash := ¬(batch.map Entry.tag).Nodup ∨ ∃ e ∈ batch, e.tag ∈ tags
     let refused (status : Status) : Host.Outcome State Fault Refusal :=
       .next (s.replied r rest status (bytesBE 2 (s.sched n).staging.length ++ bytesBE 2 s.free))
     ((s.sched n).commit ≠ none → exec .stageAdd s = refused .wrongState) ∧
     ((s.sched n).commit = none → clash → exec .stageAdd s = refused .dupTag) ∧
     ((s.sched n).commit = none → ¬clash → s.free < batch.length → exec .stageAdd s = refused .noSpace) ∧
     ((s.sched n).commit = none → ¬clash → batch.length ≤ s.free → ∃ staging : List Entry,
       staging.Pairwise (fun x y => x.position ≤ y.position) ∧
       (∀ p : Int, staging.filter (fun e => e.position = p) =
         (s.sched n).staging.filter (fun e => e.position = p) ++ batch.filter (fun e => e.position = p)) ∧
       staging.length = (s.sched n).staging.length + batch.length ∧
       exec .stageAdd s = .next (State.replied
         { s with
           free := s.free - batch.length, scheds := s.scheds.set n { s.sched n with staging := staging } }
         r rest .ok (bytesBE 2 staging.length ++ bytesBE 2 (s.free - batch.length)))))

/-- A compare entry within the ranges of its axis reads back from its 14 bytes as it was written (R29, R197). The
payloads of the requests carry their parameters as Tables 10-7 and 10-8 lay them out: what is written by the layout is
what the part reads, for every value in range. That a HOME with source INDEX reads back the input k which the axis
holds, its byte being unused, is the inference of notes/assumptions/9.md, not the layout's. -/
def Obligations.EntriesAndParametersReadBack : Prop :=
  (∀ (a : Axis) (e : Entry), e.inRange a → e.encode.length = 14 ∧ readEntry a e.encode = some e) ∧
  (∀ s : State,
     (∀ n c m, AxisConfig.inRange c → readAxisConfig s (axisConfigBytes n c m) = some (n, c, m)) ∧
     (∀ n k h, h.source ≠ .index ∧ k = byteOf h.input.val ∨ h.source = .index ∧ h.input = (s.axis n).homing.input →
       readHome s (homeBytes n k h) = some (n, h)) ∧
     (∀ n x, (s.axis n).position.mode = .linear → -2147483648 ≤ x → x ≤ 2147483647 →
       readSetPosition s (setPositionBytes n (.linear x)) = some (n, .linear x)) ∧
     (∀ n turn angle, (s.axis n).position.mode = .rotary → (s.axis n).config.cpr ≤ 16777216 →
       angle < (s.axis n).config.cpr →
       readSetPosition s (setPositionBytes n (.rotary turn angle)) = some (n, .rotary turn angle)) ∧
     (∀ n run, readCommit s (commitBytes n .now run) = some (n, .now, run) ∧
       readCommit s (commitBytes n .atTrigger run) = some (n, .atTrigger, run)) ∧
     (∀ n p run, -2147483648 ≤ p → p ≤ 2147483647 → (s.axis n).inRange p = true →
       readCommit s (commitBytes n (.atPosition p) run) = some (n, .atPosition p, run)) ∧
     (∀ n es, 1 ≤ es.length → es.length ≤ 16 → (∀ e ∈ es, e.inRange (s.axis n)) →
       readStageAdd s (stageAddBytes n es) = some (n, es)) ∧
     (∀ i x, Route.inRange x → readRouteSet s (routeSetBytes i x) = some (i, x)) ∧
     (∀ l act, OutAction.inRange act →
       readOutputAction s ([byteOf l.val, byteOf act.code] ++ act.params) = some (l, act)))

/-- SCHED_START (R56), by its four cases in their order. SCHED_STOP and SCHED_CONFIG (R58, R72): a stop changes the
state alone, and H changes no armed flag. -/
def Obligations.ScheduleStartsStopsAndKeepsItsList : Prop :=
  (∀ (s : State) (r : Request) (rest : List Request) (n : AxisId),
     Takes s r rest → Attached s → r.op = 0x27#8 → r.payload = [byteOf n.val] →
     ((s.sched n).state = .running → exec .schedStart s = .next (s.replied r rest .ok [])) ∧
     ((s.sched n).state ≠ .running → (s.sched n).active = [] →
       exec .schedStart s = .next (s.replied r rest .emptyList [])) ∧
     ((s.sched n).state ≠ .running → (s.sched n).active ≠ [] → (s.axis n).ref ≠ .referenced →
       exec .schedStart s = .next (s.replied r rest .notReferenced [])) ∧
     ((s.sched n).state ≠ .running → (s.sched n).active ≠ [] → (s.axis n).ref = .referenced →
       exec .schedStart s = .next (State.replied
         { s with scheds := s.scheds.set n { s.sched n with
           state := .running
           active := (s.sched n).active.map fun e =>
             { e with armed := decide ((s.sched n).h ≤ (s.axis n).distance e.position) } } }
         r rest .ok []))) ∧
  (∀ (s : State) (r : Request) (rest : List Request) (n : AxisId), Takes s r rest → Attached s →
     (r.op = 0x28#8 → r.payload = [byteOf n.val] →
       exec .schedStop s = .next (State.replied
         { s with scheds := s.scheds.set n { s.sched n with state := .stopped } } r rest .ok [])) ∧
     (∀ h0 h1 : Byte, r.op = 0x24#8 → r.payload = [byteOf n.val, h0, h1] →
       (h0.toNat * 256 + h1.toNat ≠ 0 →
         exec .schedConfig s = .next (State.replied
           { s with scheds := s.scheds.set n { s.sched n with h := h0.toNat * 256 + h1.toNat } } r rest .ok [])) ∧
       (h0.toNat * 256 + h1.toNat = 0 → exec .schedConfig s = .next (s.replied r rest .badParam []))))

/-- COMMIT (R64): refused while a commit is pending, and AT_POSITION off REFERENCED; the other two modes pend. COMMIT
NOW (R64, R67, Table 3-3): the old entries' slots return, the staging list becomes the active one, fully evaluated, a
COMMITTED record is made, and the schedule follows Table 3-3; a RUNNING schedule left with an empty list completes
with a DONE record (R61), and SCHED_DONE(n) goes to the Route Table. COMMIT_CANCEL (R71). -/
def Obligations.CommitPendsTakesEffectOrIsWithdrawn : Prop :=
  (∀ (s : State) (r : Request) (rest : List Request) (n : AxisId) (mode : CommitMode) (run : Bool),
     Takes s r rest → Attached s → r.op = 0x25#8 → r.payload.length = 7 →
     readCommit s r.payload = some (n, mode, run) →
     ((s.sched n).commit ≠ none → exec .commit s = .next (s.replied r rest .wrongState [])) ∧
     ((s.sched n).commit = none → mode = .atTrigger →
       exec .commit s = .next (State.replied
         { s with scheds := s.scheds.set n { s.sched n with commit := some (.atTrigger run) } } r rest .ok [])) ∧
     (∀ p, (s.sched n).commit = none → mode = .atPosition p → (s.axis n).ref = .referenced →
       exec .commit s = .next (State.replied
         { s with scheds := s.scheds.set n { s.sched n with commit := some (.atPosition p run) } } r rest .ok [])) ∧
     (∀ p, (s.sched n).commit = none → mode = .atPosition p → (s.axis n).ref ≠ .referenced →
       exec .commit s = .next (s.replied r rest .notReferenced []))) ∧
  (∀ (s : State) (r : Request) (rest : List Request) (n : AxisId) (run : Bool),
     Takes s r rest → Attached s → r.op = 0x25#8 → r.payload.length = 7 →
     readCommit s r.payload = some (n, .now, run) → (s.sched n).commit = none →
     let new := (s.sched n).staging.map fun e =>
       { e with armed := decide ((s.sched n).h ≤ (s.axis n).distance e.position) }
     let committed := s.queue.offer s.queue.enables.schedule ⟨.schedule n .committed new.length, s.timebase.count, []⟩
     let runs := (s.sched n).state = .stopped ∧ new ≠ [] ∧ run = true ∧ (s.axis n).ref = .referenced
     let done := (s.sched n).state = .running ∧ new = []
     let installed := { s with
         link := { s.link with waiting := rest }
         free := s.free + (s.sched n).active.length
         scheds := s.scheds.set n { s.sched n with
           active := new, staging := []
           state := if runs then .running else if done then .stopped else (s.sched n).state }
         queue := if done then
             committed.offer committed.enables.schedule ⟨.schedule n .done 0, s.timebase.count, []⟩
           else committed }
     exec .commit s = .next (State.replied
       (if done then sendEvent (.schedDone n) s.timebase.count installed else installed) r rest .ok [])) ∧
  (∀ (s : State) (r : Request) (rest : List Request) (n : AxisId),
     Takes s r rest → Attached s → r.op = 0x26#8 → r.payload = [byteOf n.val] →
     ((s.sched n).commit ≠ none →
       exec .commitCancel s = .next (State.replied
         { s with
           scheds := s.scheds.set n { s.sched n with commit := none }
           queue := s.queue.offer s.queue.enables.schedule
             ⟨.schedule n .commitCancelled (s.sched n).active.length, s.timebase.count, []⟩ }
         r rest .ok [])) ∧
     ((s.sched n).commit = none → exec .commitCancel s = .next (s.replied r rest .noEntry [])))

/-- A count of a RUNNING schedule at which no entry fires and no commit is reached (R41, R45, R46): every disarmed
entry at distance H or more from the new position becomes armed, every other flag stays, and beside the axis's own
change nothing else changes. `p` is the position after the count. The change comes at its own moment, to which time
runs on (notes/assumptions/6.md and 8.md). The arming distance on a ROTARY axis is at most half the revolution (R40),
and on a LINEAR one it is exact. -/
def Obligations.CountWithoutFiringRearmsByDistance : Prop :=
  (∀ (s : State) (n : AxisId) (takes : List Nat) (c : PairChange) (raw d : Dir) (p : Position),
     s.phase = .running → s.nextPair n = some c → (s.sched n).state = .running → (s.sched n).active ≠ [] →
     rawCount (s.axis n).config.countMode (s.axis n).decoder.a (s.axis n).decoder.b c.a c.b = some raw →
     d = (if (s.axis n).config.invert then (match raw with | .up => .down | .down => .up) else raw) →
     countPosition (s.axis n).config.cpr d (s.axis n).position = some p →
     (∀ run, (s.sched n).commit ≠ some (.atPosition p.value run)) →
     (∀ e ∈ (s.sched n).active, (s.axis n).ref ≠ .referenced ∨ e.armed = false ∨ e.position ≠ p.value ∨
       (e.dir = .up ∧ d = .down) ∨ (e.dir = .down ∧ d = .up)) →
     let moved : Axis :=
       { s.axis n with position := p, lastDir := d, decoder := { (s.axis n).decoder with a := c.a, b := c.b } }
     exec (.countEvent n takes) s = .next
       { s.takePair n c with
         axes := s.axes.set n moved
         scheds := s.scheds.set n { s.sched n with active := (s.sched n).active.map fun e =>
           { e with armed := e.armed || decide ((s.sched n).h ≤ moved.distance e.position) } } }) ∧
  ((∀ (a : Axis) (turn : Word32) (angle q : Nat), a.position = .rotary turn angle → angle < a.config.cpr →
     q < a.config.cpr → a.distance q ≤ a.config.cpr / 2 ∧
       ∃ k : Int, (a.distance q : Int) = ((angle : Int) - q + k * a.config.cpr).natAbs) ∧
   (∀ (a : Axis) (x q : Int), a.position = .linear x → (a.distance q : Int) = |x - q|))

/-- A count at which entries fire (R46 to R49, R51, R52), however many, with or without action, record and mark: they
fire in list order, each issuing its action and then its COMPARE record; a ONCE entry leaves and returns its slot, a
REPEAT entry is counted and disarmed; the total rises by their number, and the others re-arm. When the last entry
retires, the schedule completes: it is STOPPED and makes a DONE record (R61, R62). No route names the marks or the
completion, and no commit is reached. The change comes at its own moment, to which time runs on
(notes/assumptions/6.md and 8.md). -/
def Obligations.FiringCountsDisarmsRetiresAndReports : Prop :=
  ∀ (s : State) (n : AxisId) (takes : List Nat) (c : PairChange) (raw d : Dir) (p : Position),
    s.phase = .running → s.nextPair n = some c → (s.sched n).state = .running → (s.axis n).ref = .referenced →
    rawCount (s.axis n).config.countMode (s.axis n).decoder.a (s.axis n).decoder.b c.a c.b = some raw →
    d = (if (s.axis n).config.invert then (match raw with | .up => .down | .down => .up) else raw) →
    countPosition (s.axis n).config.cpr d (s.axis n).position = some p →
    (∀ run, (s.sched n).commit ≠ some (.atPosition p.value run)) →
    ((s.sched n).active.map Entry.tag).Nodup → (∀ m, NoRouteOn s (.mark n m)) → NoRouteOn s (.schedDone n) →
    let moved : Axis :=
      { s.axis n with position := p, lastDir := d, decoder := { (s.axis n).decoder with a := c.a, b := c.b } }
    let firing := (s.sched n).active.filter (Entry.firesAt p d)
    let acted := firing.foldl (State.fired n d) ((s.takePair n c).setAxis n moved)
    let left := listRearmed moved (s.sched n).h (listAfter (Entry.firesAt p d) (s.sched n).active)
    exec (.countEvent n takes) s = .next
      { acted with
        free := s.free + ((s.sched n).active.length - left.length)
        scheds := s.scheds.set n { s.sched n with
          total := (s.sched n).total + BitVec.ofNat 32 firing.length
          active := left
          state := if left = [] then .stopped else .running }
        queue := if left = [] then
            acted.queue.offer s.queue.enables.schedule ⟨.schedule n .done 0, acted.timebase.count, []⟩
          else acted.queue }

/-- A count that reaches a pending AT_POSITION commit on a STOPPED or HELD schedule (R62, R66, R67): the commit takes
effect; a HELD schedule stays HELD, a STOPPED one runs under its run flag when the new list is non-empty and the axis
REFERENCED. The change comes at its own moment, to which time runs on (notes/assumptions/6.md and 8.md). A count of a
RUNNING schedule that reaches a pending AT_POSITION commit (R62, R66, R67): the entries of the old list fire first,
whole; the commit then takes effect, the schedule staying RUNNING with the new list freshly armed, or completing with
a DONE record after the COMMITTED record when the new list is empty. No route names the marks or the completion. -/
def Obligations.CountReachesAnAtPositionCommit : Prop :=
  (∀ (s : State) (n : AxisId) (takes : List Nat) (c : PairChange) (raw d : Dir) (p : Position) (run : Bool),
     s.phase = .running → s.nextPair n = some c → (s.sched n).state ≠ .running →
     rawCount (s.axis n).config.countMode (s.axis n).decoder.a (s.axis n).decoder.b c.a c.b = some raw →
     d = (if (s.axis n).config.invert then (match raw with | .up => .down | .down => .up) else raw) →
     countPosition (s.axis n).config.cpr d (s.axis n).position = some p →
     (s.sched n).commit = some (.atPosition p.value run) →
     let moved : Axis :=
       { s.axis n with position := p, lastDir := d, decoder := { (s.axis n).decoder with a := c.a, b := c.b } }
     let new := listArmed moved (s.sched n).h (s.sched n).staging
     let u := s.takePair n c
     exec (.countEvent n takes) s = .next
       { u with
         axes := s.axes.set n moved
         free := s.free + (s.sched n).active.length
         scheds := s.scheds.set n { s.sched n with
           active := new, staging := [], commit := none
           state := if (s.sched n).state = .stopped ∧ run = true ∧ (s.axis n).ref = .referenced ∧ new ≠ []
             then .running else (s.sched n).state }
         queue := s.queue.offer s.queue.enables.schedule ⟨.schedule n .committed new.length, u.timebase.count, []⟩ }) ∧
  (∀ (s : State) (n : AxisId) (takes : List Nat) (c : PairChange) (raw d : Dir) (p : Position) (run : Bool),
     s.phase = .running → s.nextPair n = some c → (s.sched n).state = .running → (s.axis n).ref = .referenced →
     rawCount (s.axis n).config.countMode (s.axis n).decoder.a (s.axis n).decoder.b c.a c.b = some raw →
     d = (if (s.axis n).config.invert then (match raw with | .up => .down | .down => .up) else raw) →
     countPosition (s.axis n).config.cpr d (s.axis n).position = some p →
     (s.sched n).commit = some (.atPosition p.value run) →
     ((s.sched n).active.map Entry.tag).Nodup → (∀ m, NoRouteOn s (.mark n m)) → NoRouteOn s (.schedDone n) →
     let moved : Axis :=
       { s.axis n with position := p, lastDir := d, decoder := { (s.axis n).decoder with a := c.a, b := c.b } }
     let firing := (s.sched n).active.filter (Entry.firesAt p d)
     let acted := firing.foldl (State.fired n d) ((s.takePair n c).setAxis n moved)
     let new := listArmed moved (s.sched n).h (s.sched n).staging
     let committed := acted.queue.offer s.queue.enables.schedule
       ⟨.schedule n .committed new.length, acted.timebase.count, []⟩
     exec (.countEvent n takes) s = .next
       { acted with
         free := s.free + (s.sched n).active.length
         scheds := s.scheds.set n { s.sched n with
           total := (s.sched n).total + BitVec.ofNat 32 firing.length
           active := new, staging := [], commit := none
           state := if new = [] then .stopped else .running }
         queue := if new = [] then
             committed.offer s.queue.enables.schedule ⟨.schedule n .done 0, acted.timebase.count, []⟩
           else committed })

/-- The OUTPUT actions of two routes on the mark of an entry, and a later firing of the same count (R50, R86, R111):
`takes` brings each route's action before or after the later firing, in ascending route number, so that every order
R50 allows has its `takes`; left out, both come before it. The positions, lists and counts are the same in every
order. The change comes at its own moment, to which time runs on (notes/assumptions/6.md and 8.md). The operand
`takes` is the model's form of the order that R50 leaves open (notes/assumptions/4.md). -/
def Obligations.MarkActionsComeBeforeOrAfterALaterFiring : Prop :=
  ∀ (s : State) (n : AxisId) (takes : List Nat) (c : PairChange) (raw d : Dir) (p : Position) (e1 e2 : Entry)
    (i j : RouteId) (li lj : LineId) (ai aj : OutAction),
    s.phase = .running → s.nextPair n = some c → (s.sched n).state = .running → (s.axis n).ref = .referenced →
    rawCount (s.axis n).config.countMode (s.axis n).decoder.a (s.axis n).decoder.b c.a c.b = some raw →
    d = (if (s.axis n).config.invert then (match raw with | .up => .down | .down => .up) else raw) →
    countPosition (s.axis n).config.cpr d (s.axis n).position = some p →
    (∀ run, (s.sched n).commit ≠ some (.atPosition p.value run)) →
    ((s.sched n).active.map Entry.tag).Nodup → (s.sched n).active.filter (Entry.firesAt p d) = [e1, e2] →
    e1.mark ≠ 0 → NoRouteOn s (.mark n e2.mark) → i < j →
    (s.route i).Ready (.mark n e1.mark) (.output li ai) → (s.route j).Ready (.mark n e1.mark) (.output lj aj) →
    (∀ h, h ≠ i → h ≠ j → (s.route h).hit (.mark n e1.mark) = false) →
    let moved : Axis :=
      { s.axis n with position := p, lastDir := d, decoder := { (s.axis n).decoder with a := c.a, b := c.b } }
    let left := listRearmed moved (s.sched n).h (listAfter (Entry.firesAt p d) (s.sched n).active)
    left ≠ [] →
    let early := takes.headD 3 - 1
    let routed : List (State → State) := [issueAction li ai, issueAction lj aj]
    let order := [fun t => t.fired n d e1] ++ routed.take early ++ [fun t => t.fired n d e2] ++ routed.drop early
    let acted := order.foldl (fun t f => f t) ((s.takePair n c).setAxis n moved)
    exec (.countEvent n takes) s = .next
      { acted with
        free := s.free + ((s.sched n).active.length - left.length)
        scheds := s.scheds.set n { s.sched n with total := (s.sched n).total + 2#32, active := left }
        routes := (s.routes.set i (s.route i).actedOnce).set j (s.route j).actedOnce }

/-- Route actions on the SCHED_DONE and on the marks of a count (R50, R62, R63, R65, R108, R109, R111), each by the
only route on its event. On SCHED_DONE(n), after the count at which the last entry retired: the DONE record stands
first; a START or STOP(n) finds the schedule STOPPED with no entries, and a COMMIT(n) that takes a pending AT_TRIGGER
commit makes its COMMITTED record, the schedule running again only under the run flag with entries to run. On the mark
of an entry that fires, a START, STOP or COMMIT(n) is taken at the end of the count, after the re-arming: a START
finds the schedule RUNNING, a STOP stops it, and a COMMIT installs the staging list, completing the schedule when that
is empty. A COMMIT(n) without a pending AT_TRIGGER commit has no effect. A CAPTURE on either event records the
positions that include the count, with the time of the event (Table 5-3), and an OUTPUT issues its action. Where the
records of a CAPTURE or OUTPUT stand among those of the count (after the COMPARE record of the firing, after the DONE
record) is the model's order of notes/assumptions/19.md. The change comes at its own moment, to which time runs on
(notes/assumptions/6.md and 8.md). -/
def Obligations.WaitingRouteActionsFollowTheCount : Prop :=
  (∀ (s : State) (n : AxisId) (takes : List Nat) (c : PairChange) (raw d : Dir) (p : Position) (i : RouteId)
    (a : RouteAction),
    s.phase = .running → s.nextPair n = some c → (s.sched n).state = .running → (s.axis n).ref = .referenced →
    rawCount (s.axis n).config.countMode (s.axis n).decoder.a (s.axis n).decoder.b c.a c.b = some raw →
    d = (if (s.axis n).config.invert then (match raw with | .up => .down | .down => .up) else raw) →
    countPosition (s.axis n).config.cpr d (s.axis n).position = some p →
    (∀ run, (s.sched n).commit ≠ some (.atPosition p.value run)) →
    ((s.sched n).active.map Entry.tag).Nodup → (∀ m, NoRouteOn s (.mark n m)) →
    (s.route i).Ready (.schedDone n) a → (∀ j, j ≠ i → (s.route j).hit (.schedDone n) = false) →
    listAfter (Entry.firesAt p d) (s.sched n).active = [] →
    let moved : Axis :=
      { s.axis n with position := p, lastDir := d, decoder := { (s.axis n).decoder with a := c.a, b := c.b } }
    let firing := (s.sched n).active.filter (Entry.firesAt p d)
    let after := (s.takePair n c).setAxis n moved
    let acted := firing.foldl (State.fired n d) after
    let x := { s.sched n with
      total := (s.sched n).total + BitVec.ofNat 32 firing.length, active := [], state := .stopped }
    let v := { acted with
      free := s.free + (s.sched n).active.length
      routes := s.routes.set i (s.route i).actedOnce
      scheds := s.scheds.set n x
      queue := acted.queue.offer s.queue.enables.schedule ⟨.schedule n .done 0, acted.timebase.count, []⟩ }
    (a = .start n ∨ a = .stop n → exec (.countEvent n takes) s = .next v) ∧
    (a = .commit n → (∀ run, x.commit ≠ some (.atTrigger run)) → exec (.countEvent n takes) s = .next v) ∧
    (∀ run, a = .commit n → x.commit = some (.atTrigger run) →
      let new := listArmed moved x.h x.staging
      exec (.countEvent n takes) s = .next
        { v with
          scheds := s.scheds.set n { x with
            active := new, staging := [], commit := none
            state := if run = true ∧ new ≠ [] then .running else .stopped }
          queue := v.queue.offer s.queue.enables.schedule
            ⟨.schedule n .committed new.length, acted.timebase.count, []⟩ }) ∧
    (∀ set, a = .capture set → exec (.countEvent n takes) s = .next
      { v with queue := v.queue.receive ⟨.capture (some i) .schedDone (s.route i).divider, acted.timebase.count,
        (([0, 1, 2, 3] : List AxisId).filter fun m => set.getLsbD m.val).map fun m => (after.axis m).posWord m⟩ }) ∧
    (∀ l act, a = .output l act → exec (.countEvent n takes) s = .next (issueAction l act v))) ∧
  (∀ (s : State) (n : AxisId) (takes : List Nat) (c : PairChange) (raw d : Dir) (p : Position) (e : Entry) (i : RouteId)
    (a : RouteAction),
    s.phase = .running → s.nextPair n = some c → (s.sched n).state = .running → (s.axis n).ref = .referenced →
    rawCount (s.axis n).config.countMode (s.axis n).decoder.a (s.axis n).decoder.b c.a c.b = some raw →
    d = (if (s.axis n).config.invert then (match raw with | .up => .down | .down => .up) else raw) →
    countPosition (s.axis n).config.cpr d (s.axis n).position = some p →
    (∀ run, (s.sched n).commit ≠ some (.atPosition p.value run)) →
    ((s.sched n).active.map Entry.tag).Nodup → (s.sched n).active.filter (Entry.firesAt p d) = [e] → e.mark ≠ 0 →
    (s.route i).Ready (.mark n e.mark) a → (∀ j, j ≠ i → (s.route j).hit (.mark n e.mark) = false) →
    NoRouteOn s (.schedDone n) →
    let moved : Axis :=
      { s.axis n with position := p, lastDir := d, decoder := { (s.axis n).decoder with a := c.a, b := c.b } }
    let after := (s.takePair n c).setAxis n moved
    let acted := after.fired n d e
    let x := s.sched n
    let left := listRearmed moved x.h (listAfter (Entry.firesAt p d) x.active)
    left ≠ [] →
    let v := { acted with
      free := s.free + (x.active.length - left.length)
      routes := s.routes.set i (s.route i).actedOnce
      scheds := s.scheds.set n { x with total := x.total + 1#32, active := left } }
    (a = .start n → exec (.countEvent n takes) s = .next v) ∧
    (a = .stop n → exec (.countEvent n takes) s = .next
      { v with scheds := s.scheds.set n { x with total := x.total + 1#32, active := left, state := .stopped } }) ∧
    (∀ run, a = .commit n → x.commit = some (.atTrigger run) →
      let new := listArmed moved x.h x.staging
      let committed := acted.queue.offer s.queue.enables.schedule
        ⟨.schedule n .committed new.length, acted.timebase.count, []⟩
      exec (.countEvent n takes) s = .next
        { v with
          free := s.free + x.active.length
          scheds := s.scheds.set n { x with
            total := x.total + 1#32, active := new, staging := [], commit := none
            state := if new = [] then .stopped else .running }
          queue := if new = [] then
              committed.offer s.queue.enables.schedule ⟨.schedule n .done 0, acted.timebase.count, []⟩
            else committed }) ∧
    (a = .commit n → (∀ run, x.commit ≠ some (.atTrigger run)) → exec (.countEvent n takes) s = .next v) ∧
    (∀ set, a = .capture set → exec (.countEvent n takes) s = .next
      { v with queue := acted.queue.receive ⟨.capture (some i) .mark (s.route i).divider, acted.timebase.count,
        (([0, 1, 2, 3] : List AxisId).filter fun m => set.getLsbD m.val).map fun m => (after.axis m).posWord m⟩ }) ∧
    (∀ l act, a = .output l act → exec (.countEvent n takes) s = .next (issueAction l act v)))

/-! ### Output lines -/

/-- OUTPUT_ACTION on a free line while not SAFE (R78, R79, R80, R89): SET, CLEAR and TOGGLE change the steady level at
once with outcome APPLIED; a PULSE or TRAIN starts with outcome STARTED, in LEAD when the last pulse of the line ended
less than 100 ns before and in ACTIVE otherwise. No other line changes. -/
def Obligations.FreeLineTakesTheAction : Prop :=
  ∀ (s : State) (r : Request) (rest : List Request) (l : LineId) (act : OutAction),
    Takes s r rest → Attached s → r.op = 0x31#8 → r.payload.length = 8 →
    readOutputAction s r.payload = some (l, act) → s.safe = false → (s.line l).running = none →
    let taken (x : Line) (outcome : Byte) : Host.Outcome State Fault Refusal :=
      .next (State.replied { s with lines := s.lines.set l x } r rest .ok [outcome])
    (act = .set → exec .outputAction s = taken { s.line l with steady := .high } 0#8) ∧
    (act = .clear → exec .outputAction s = taken { s.line l with steady := .low } 0#8) ∧
    (act = .toggle → exec .outputAction s = taken { s.line l with steady := (s.line l).steady.flip } 0#8) ∧
    (∀ t, act = .timed t →
      let pulses := match t with | .pulse _ => 1 | .train _ count _ => count
      let width := match t with | .pulse w => w | .train w _ _ => w
      ((s.line l).lastPulseEnd = none ∨ (∃ e, (s.line l).lastPulseEnd = some e ∧ e + 10 ≤ s.now) →
        exec .outputAction s =
          taken { s.line l with running := some ⟨t, .active, pulses, s.now + width * 10⟩ } 1#8) ∧
      (∀ e, (s.line l).lastPulseEnd = some e → s.now < e + 10 →
        exec .outputAction s = taken { s.line l with running := some ⟨t, .lead, pulses, e + 10⟩ } 1#8))

/-- OUTPUT_ACTION on an occupied line while not SAFE (R83, R84, R85, R87, R88): under QUEUE with an empty slot the
action waits; under QUEUE with a full slot and under DROP it is dropped, counted and reported; a SET, CLEAR or TOGGLE
under PREEMPT cuts the running action short, is counted and reported, and changes the steady level. A PULSE or TRAIN
under PREEMPT (R79, R83): the running action is cut short, counted and reported, with outcome PREEMPTED. The new
action opens in LEAD after a pulse in ACTIVE, which has just ended; after an action in LEAD or GAP it opens in LEAD
when the line's last pulse ended less than 100 ns before, and in ACTIVE otherwise. -/
def Obligations.OccupiedLineFollowsItsPolicy : Prop :=
  (∀ (s : State) (r : Request) (rest : List Request) (l : LineId) (act : OutAction) (run : Running),
     Takes s r rest → Attached s → r.op = 0x31#8 → r.payload.length = 8 →
     readOutputAction s r.payload = some (l, act) → s.safe = false → (s.line l).running = some run →
     let reports := s.queue.enables.output && (s.line l).report
     ((s.line l).policy = .queue → (s.line l).waiting = none →
       exec .outputAction s = .next (State.replied
         { s with lines := s.lines.set l { s.line l with waiting := some act } } r rest .ok [3#8])) ∧
     ((s.line l).policy = .drop ∨ ((s.line l).policy = .queue ∧ (s.line l).waiting ≠ none) →
       exec .outputAction s = .next (State.replied
         { s with
           lines := s.lines.set l { s.line l with drops := min ((s.line l).drops + 1) 65535 }
           queue := s.queue.offer reports
             ⟨.output l .dropped (min ((s.line l).drops + 1) 65535) (s.line l).preempts, s.timebase.count, []⟩ }
         r rest .ok [4#8])) ∧
     (∀ level, (s.line l).policy = .preempt →
       (act = .set ∧ level = .high) ∨ (act = .clear ∧ level = .low) ∨
         (act = .toggle ∧ level = (match (s.line l).steady with | .low => .high | .high => .low)) →
       exec .outputAction s = .next (State.replied
         { s with
           lines := s.lines.set l { s.line l with
             running := none, steady := level, preempts := min ((s.line l).preempts + 1) 65535
             lastPulseEnd := if run.phase = .active then some s.now else (s.line l).lastPulseEnd }
           queue := s.queue.offer reports
             ⟨.output l .preempted (s.line l).drops (min ((s.line l).preempts + 1) 65535), s.timebase.count, []⟩ }
         r rest .ok [0#8]))) ∧
  (∀ (s : State) (r : Request) (rest : List Request) (l : LineId) (t : Timed) (run : Running),
     Takes s r rest → Attached s → r.op = 0x31#8 → r.payload.length = 8 →
     readOutputAction s r.payload = some (l, .timed t) → s.safe = false → (s.line l).running = some run →
     (s.line l).policy = .preempt →
     let pulses := match t with | .pulse _ => 1 | .train _ count _ => count
     let width := match t with | .pulse w => w | .train w _ _ => w
     let taken (new : Running) (ended : Option Nat) : Host.Outcome State Fault Refusal :=
       .next (State.replied
         { s with
           lines := s.lines.set l { s.line l with
             running := some new, preempts := min ((s.line l).preempts + 1) 65535, lastPulseEnd := ended }
           queue := s.queue.offer (s.queue.enables.output && (s.line l).report)
             ⟨.output l .preempted (s.line l).drops (min ((s.line l).preempts + 1) 65535), s.timebase.count, []⟩ }
         r rest .ok [2#8])
     (run.phase = .active → exec .outputAction s = taken ⟨t, .lead, pulses, s.now + 10⟩ (some s.now)) ∧
     (∀ e, run.phase ≠ .active → (s.line l).lastPulseEnd = some e → s.now < e + 10 →
       exec .outputAction s = taken ⟨t, .lead, pulses, e + 10⟩ (some e)) ∧
     (run.phase ≠ .active → (∀ e, (s.line l).lastPulseEnd = some e → e + 10 ≤ s.now) →
       exec .outputAction s = taken ⟨t, .active, pulses, s.now + width * 10⟩ (s.line l).lastPulseEnd))

/-- An action that an entry or a route issues meets its line as that of an OUTPUT_ACTION request does (R48, R83, R86,
R111): the state it leaves is the one to which the request adds its reply. While the unit is SAFE it is dropped,
counted, and reported with DROPPED_SAFE (R94). -/
def Obligations.IssuedActionsMeetTheLineLikeRequests : Prop :=
  (∀ (s : State) (r : Request) (rest : List Request) (l : LineId) (act : OutAction),
    Takes s r rest → Attached s → r.op = 0x31#8 → r.payload.length = 8 →
    readOutputAction s r.payload = some (l, act) → s.safe = false →
    ∃ outcome, exec .outputAction s = .next ((issueAction l act s).replied r rest .ok [outcome])) ∧
  (∀ (s : State) (l : LineId) (act : OutAction), s.safe = true →
    issueAction l act s = { s with
      lines := s.lines.set l { s.line l with drops := min ((s.line l).drops + 1) 65535 }
      queue := s.queue.offer (s.queue.enables.output && (s.line l).report)
        ⟨.output l .droppedSafe (min ((s.line l).drops + 1) 65535) (s.line l).preempts, s.timebase.count, []⟩ })

/-- OUTPUT_STOP (R90) and OUTPUT_CONFIG (R91): the running action ends where it stands and the waiting one is
discarded, with no count and no record; a pulse cut short in ACTIVE is the line's last pulse. OUTPUT_CONFIG then
replaces the configuration and the steady level becomes the new idle level. While SAFE, OUTPUT_CONFIG and
OUTPUT_ACTION are refused with OUTPUTS_SAFE and change nothing. OUTPUT_SAFE (R93) and OUTPUT_RELEASE (R95): entry ends
every action uncounted and reports the numbers once; release returns every line to its idle level; each changes
nothing where the unit stands so already. The level at the pin (R77). -/
def Obligations.StopConfigAndSafeEndTheActionsAndThePinFollows : Prop :=
  (∀ (s : State) (r : Request) (rest : List Request) (l : LineId), Takes s r rest → Attached s →
     let stopped : Line := { s.line l with
       running := none, waiting := none
       lastPulseEnd := match (s.line l).running with
         | some ⟨_, .active, _, _⟩ => some s.now
         | _ => (s.line l).lastPulseEnd }
     (r.op = 0x32#8 → r.payload = [byteOf l.val] →
       exec .outputStop s = .next (State.replied { s with lines := s.lines.set l stopped } r rest .ok
         [if (s.line l).running = none then 0#8 else 1#8, if (s.line l).waiting = none then 0#8 else 1#8])) ∧
     (∀ (idle safeLevel : Level) (policy : Policy) (report : Bool), r.op = 0x30#8 →
       r.payload = [byteOf l.val, levelCode idle, levelCode safeLevel, policy.code, flagByte report] →
       (s.safe = false →
         exec .outputConfig s = .next (State.replied
           { s with lines := s.lines.set l { stopped with
             idle := idle, safeLevel := safeLevel, policy := policy, report := report, steady := idle } }
           r rest .ok [])) ∧
       (s.safe = true → exec .outputConfig s = .next (s.replied r rest .outputsSafe []))) ∧
     (∀ act, r.op = 0x31#8 → r.payload.length = 8 → readOutputAction s r.payload = some (l, act) → s.safe = true →
       exec .outputAction s = .next (s.replied r rest .outputsSafe []))) ∧
  (∀ (s : State) (r : Request) (rest : List Request), Takes s r rest → Attached s → r.payload = [] →
     (r.op = 0x34#8 → s.safe = false → ∃ lines : Vector Line 8,
       (∀ l : LineId, lines[l] = { s.line l with
         running := none, waiting := none
         lastPulseEnd := match (s.line l).running with
           | some ⟨_, .active, _, _⟩ => some s.now
           | _ => (s.line l).lastPulseEnd }) ∧
       exec .outputSafe s = .next (State.replied
         { s with
           lines := lines, safe := true
           queue := s.queue.offer s.queue.enables.output
             ⟨.safeEntered (Config.allLines.countP fun l => (s.line l).waiting ≠ none)
               (Config.allLines.countP fun l => (s.line l).running ≠ none), s.timebase.count, []⟩ }
         r rest .ok [])) ∧
     (r.op = 0x34#8 → s.safe = true → exec .outputSafe s = .next (s.replied r rest .ok [])) ∧
     (r.op = 0x35#8 → s.safe = true → ∃ lines : Vector Line 8,
       (∀ l : LineId, lines[l] = { s.line l with steady := (s.line l).idle }) ∧
       exec .outputRelease s = .next (State.replied { s with lines := lines, safe := false } r rest .ok [])) ∧
     (r.op = 0x35#8 → s.safe = false → exec .outputRelease s = .next (s.replied r rest .ok []))) ∧
  (∀ x : Line, x.pin true = x.safeLevel ∧ (x.running = none → x.pin false = x.steady) ∧
     (∀ run, x.running = some run →
       x.pin false = if run.phase = .active then (match x.steady with | .low => .high | .high => .low) else x.steady))

/-- LEAD_END, GAP_END and PULSE_END (R79, R80, R81) at their moment: LEAD and GAP give way to ACTIVE for the width; a
pulse that is not the last is followed by the GAP, and the remaining pulses fall by 1; after the last pulse the line
is free, or takes its waiting action as a free line whose pulse has just ended. That time runs on to the moment within
the command is the model's choice of notes/assumptions/6.md. -/
def Obligations.PhasesEndAtTheirMoments : Prop :=
  ∀ (s : State) (l : LineId) (run : Running), s.phase = .running → (s.line l).running = some run →
    let width := match run.action with | .pulse w => w | .train w _ _ => w
    let gap := match run.action with | .pulse _ => 0 | .train w _ period => period - w
    let at_ := s.runTo run.due
    (run.phase = .lead →
      exec (.leadEnd l) s = .next { at_ with lines := s.lines.set l { s.line l with
        running := some ⟨run.action, .active, run.remaining, run.due + width * 10⟩ } }) ∧
    (run.phase = .gap →
      exec (.gapEnd l) s = .next { at_ with lines := s.lines.set l { s.line l with
        running := some ⟨run.action, .active, run.remaining, run.due + width * 10⟩ } }) ∧
    (run.phase = .active → 1 < run.remaining →
      exec (.pulseEnd l) s = .next { at_ with lines := s.lines.set l { s.line l with
        running := some ⟨run.action, .gap, run.remaining - 1, run.due + gap * 10⟩, lastPulseEnd := some at_.now } }) ∧
    (run.phase = .active → run.remaining ≤ 1 → (s.line l).waiting = none →
      exec (.pulseEnd l) s = .next { at_ with lines := s.lines.set l { s.line l with
        running := none, lastPulseEnd := some at_.now } }) ∧
    (∀ act level, run.phase = .active → run.remaining ≤ 1 → (s.line l).waiting = some act →
      (act = .set ∧ level = .high) ∨ (act = .clear ∧ level = .low) ∨
        (act = .toggle ∧ level = (match (s.line l).steady with | .low => .high | .high => .low)) →
      exec (.pulseEnd l) s = .next { at_ with lines := s.lines.set l { s.line l with
        running := none, waiting := none, lastPulseEnd := some at_.now, steady := level } }) ∧
    (∀ t, run.phase = .active → run.remaining ≤ 1 → (s.line l).waiting = some (.timed t) →
      exec (.pulseEnd l) s = .next { at_ with lines := s.lines.set l { s.line l with
        running := some ⟨t, .lead, match t with | .pulse _ => 1 | .train _ count _ => count, at_.now + 10⟩
        waiting := none, lastPulseEnd := some at_.now } })

/-- A TRAIN opening in ACTIVE lasts (count − 1) × period + width steps of 100 ns (R80): taken by a free line under
OUTPUT_ACTION and followed by its pulse and gap ends in turn, it leaves the line free at its steady level exactly
then, and no other line has changed. That time runs on to the moment within the command is the model's choice of
notes/assumptions/6.md. -/
def Obligations.TrainLastsCountPeriodsAndAWidth : Prop :=
  ∀ (s : State) (r : Request) (rest : List Request) (l : LineId) (width k period : Nat),
    Takes s r rest → Attached s → r.op = 0x31#8 → r.payload.length = 8 →
    readOutputAction s r.payload = some (l, .timed (.train width (k + 2) period)) →
    s.safe = false → (s.line l).running = none → (s.line l).waiting = none →
    (∀ e, (s.line l).lastPulseEnd = some e → e + 10 ≤ s.now) →
    ∃ t, follow (.outputAction :: trainEvents l (k + 1)) s = some t ∧
      t.now = s.now + ((k + 1) * period + width) * 10 ∧
      t.lines = s.lines.set l { s.line l with lastPulseEnd := some t.now }

/-! ### Trigger inputs and routes -/

/-- TRIGGER_EDGE with no route on it and no axis homing on the input (R98 to R101): once the line has held its new
level for the filter time the filtered level changes; an edge that is not selected does nothing more, one within the
holdoff is counted as held off, and any other is counted as accepted and starts the holdoff. Where the line makes no
such change, nothing happens. That a command whose change the line does not make does nothing is the model's choice of
notes/assumptions/3.md. TRIGGER_REJECTED_PULSE and HOLDOFF_EXPIRY (R98, R100): at a return within the filter time or
just as it elapses (R115) the rejected pulse is counted unless the selection is OFF, and the line has that departure
behind it; with no such return nothing happens. A running holdoff ends at its moment. That a command whose change the
line does not make does nothing is the model's choice of notes/assumptions/3.md; that the change comes at its own
moment in the list of the line's changes, to which time runs on, that of 6.md and 8.md. -/
def Obligations.TriggerFilterSelectionAndHoldoff : Prop :=
  (∀ (s : State) (k : TriggerId) (before after : List AxisId), s.phase = .running →
     (∀ edge, NoRouteOn s (.trig k edge)) → NoHomingOn s k →
     let t := s.trigger k
     (∀ c, heldEdge (t.filter * 10) (s.triggerWire k) = some c →
       let u := (s.runTo c.time).setTriggerWire k c.left
       let with_ (x : Trigger) : Host.Outcome State Fault Refusal := .next { u with triggers := s.triggers.set k x }
       let selected := match t.selection, t.level with
         | .both, _ => true | .rise, .low => true | .fall, .high => true | _, _ => false
       (selected = false → exec (.triggerEdge k before after) s = with_ { t with level := t.level.flip }) ∧
       (∀ e, selected = true → t.holdoffEnd = some e →
         exec (.triggerEdge k before after) s =
           with_ { t with level := t.level.flip, heldOff := min (t.heldOff + 1) 65535 }) ∧
       (selected = true → t.holdoffEnd = none →
         exec (.triggerEdge k before after) s = with_ { t with
           level := t.level.flip, accepted := min (t.accepted + 1) 65535
           holdoffEnd := if t.holdoff = 0 then none else some (u.now + t.holdoff * 100) })) ∧
     (heldEdge (t.filter * 10) (s.triggerWire k) = none → exec (.triggerEdge k before after) s = .next s)) ∧
  (∀ (s : State) (k : TriggerId), s.phase = .running →
     (∀ c, rejectedReturn ((s.trigger k).filter * 10) (s.triggerWire k) = some c →
       let u := (s.runTo c.time).setTriggerWire k c.left
       ((s.trigger k).selection ≠ .off →
         exec (.triggerRejectedPulse k) s = .next { u with
           triggers := s.triggers.set k { s.trigger k with filtered := min ((s.trigger k).filtered + 1) 65535 } }) ∧
       ((s.trigger k).selection = .off → exec (.triggerRejectedPulse k) s = .next u)) ∧
     (rejectedReturn ((s.trigger k).filter * 10) (s.triggerWire k) = none →
       exec (.triggerRejectedPulse k) s = .next s) ∧
     (∀ e, (s.trigger k).holdoffEnd = some e →
       exec (.holdoffExpiry k) s = .next { s.runTo e with
         triggers := s.triggers.set k { s.trigger k with holdoffEnd := none } }))

/-- TRIGGER_CONFIG (R103): a level change in progress is abandoned and the filtered level becomes the line's level
without an edge, the holdoff ends, the settings are replaced and the counts become 0. ROUTE_SET (R112) and ROUTE_CLEAR
(R113): a route is replaced whole, its counters 0; clearing disables it and keeps all the rest, so that a disabled
route stays as it is. -/
def Obligations.TriggerAndRouteConfigurationReplaces : Prop :=
  (∀ (s : State) (r : Request) (rest : List Request) (k : TriggerId) (selection : EdgeSelection)
     (f h0 h1 : Byte),
     Takes s r rest → Attached s → r.op = 0x40#8 → r.payload = [byteOf k.val, selection.code, f, h0, h1] →
     exec .triggerConfig s = .next (State.replied
       { s with
         wires := { s.wires with triggers := s.wires.triggers.set k (changesAfter s.now (s.triggerWire k)) }
         triggers := s.triggers.set k
           { selection := selection, filter := f.toNat, holdoff := h0.toNat * 256 + h1.toNat,
             level := lineLevel s.now (s.trigger k).level (s.triggerWire k),
             holdoffEnd := none, accepted := 0, filtered := 0, heldOff := 0 } }
       r rest .ok [])) ∧
  (∀ (s : State) (r : Request) (rest : List Request) (i : RouteId), Takes s r rest → Attached s →
     (∀ x : Route, r.op = 0x42#8 → x.inRange → r.payload = routeSetBytes i x →
       exec .routeSet s = .next (State.replied { s with routes := s.routes.set i x } r rest .ok [])) ∧
     (r.op = 0x43#8 → r.payload = [byteOf i.val] →
       exec .routeClear s = .next (State.replied
         { s with routes := s.routes.set i { s.route i with enable := false } } r rest .ok [])))

/-- An accepted edge counts its routes (R107, R110): with no route on SCHED_DONE, each route that is enabled and
matches raises its matched count and its divider counter; the one that reaches N returns to 0 and raises its acted or,
when a lower-numbered acting route reaches the same schedule, its shadowed count; every other route stays as it is.
The change comes at its own moment, to which time runs on (notes/assumptions/6.md and 8.md). -/
def Obligations.AcceptedEdgeCountsItsRoutes : Prop :=
  ∀ (s : State) (k : TriggerId) (before after : List AxisId) (c : LineChange), s.phase = .running →
    heldEdge ((s.trigger k).filter * 10) (s.triggerWire k) = some c →
    (s.trigger k).Selected → (s.trigger k).holdoffEnd = none →
    (∀ n, NoRouteOn s (.schedDone n)) →
    let edge : RouteEdge := match (s.trigger k).level with | .low => .rise | .high => .fall
    ∃ t, exec (.triggerEdge k before after) s = .next t ∧ ∀ i : RouteId,
      let x := s.route i
      let hit := x.enable = true ∧ (x.source = some (.trig k .any) ∨ x.source = some (.trig k edge))
      let acts := hit ∧ x.counter + 1 = x.divider
      let shadowed := ∃ j : RouteId, j < i ∧
        ((s.route j).enable = true ∧
          ((s.route j).source = some (.trig k .any) ∨ (s.route j).source = some (.trig k edge)) ∧
          (s.route j).counter + 1 = (s.route j).divider) ∧
        ∃ n, x.target = some n ∧ (s.route j).target = some n
      (¬hit → t.route i = x) ∧
      (hit → ¬acts → t.route i = { x with matched := min (x.matched + 1) 65535, counter := x.counter + 1 }) ∧
      (acts → ¬shadowed → t.route i = x.actedOnce) ∧
      (acts → shadowed → t.route i = x.shadowedOnce)

/-- A CAPTURE or OUTPUT route on an accepted edge (R101, R106, R108, R111, R129), the only route on the edge, which
its source names or admits as ANY: a CAPTURE makes a record with the time at which the edge appeared on the line, the
positions of its axes in ascending order, its number, the edge and N; an OUTPUT issues its action, and counts it as
acted whatever the line makes of it. The change comes at its own moment, to which time runs on (notes/assumptions/6.md
and 8.md). -/
def Obligations.CaptureRouteRecordsThePositions : Prop :=
  ∀ (s : State) (k : TriggerId) (i : RouteId) (c : LineChange) (src : RouteEdge) (action : RouteAction),
    s.phase = .running →
    heldEdge ((s.trigger k).filter * 10) (s.triggerWire k) = some c →
    (s.trigger k).Selected → (s.trigger k).holdoffEnd = none → NoHomingOn s k →
    src = .any ∨ src = (match (s.trigger k).level with | .low => .rise | .high => .fall) →
    (s.route i).Ready (.trig k src) action →
    (∀ j, j ≠ i → (s.route j).hit (.trig k (s.trigger k).edge) = false) →
    let u := (s.runTo c.time).setTriggerWire k c.left
    let v := { u with
      triggers := s.triggers.set k ((s.trigger k).acceptedAt u.now), routes := s.routes.set i (s.route i).actedOnce }
    (∀ set, action = .capture set →
      exec (.triggerEdge k [] []) s = .next { v with
        queue := s.queue.receive
          ⟨.capture (some i) (.trig k (s.trigger k).edge) (s.route i).divider,
            u.timebase.count - BitVec.ofNat 48 ((s.trigger k).filter * 10),
            (([0, 1, 2, 3] : List AxisId).filter fun n => set.getLsbD n.val).map fun n => (s.axis n).posWord n⟩ }) ∧
    (∀ l act, action = .output l act → exec (.triggerEdge k [] []) s = .next (issueAction l act v))

/-- Of two routes on one edge that reach one schedule, whatever their actions, the lower-numbered takes effect and the
other is shadowed (R110). A START runs a schedule that is not RUNNING, has entries and a REFERENCED axis, freshly
armed (R57); a STOP stops it (R58); a COMMIT makes a pending AT_TRIGGER commit take effect by Table 3-3 and leaves
anything else (R65, R67), and one that leaves a RUNNING schedule without entries completes it with a DONE record
(R61). No route is set on the completion. The change comes at its own moment, to which time runs on
(notes/assumptions/6.md and 8.md). -/
def Obligations.LowestNumberedRouteWinsTheSchedule : Prop :=
  ∀ (s : State) (k : TriggerId) (i j : RouteId) (n : AxisId) (c : LineChange) (a b : RouteAction)
    (src src' : RouteEdge), s.phase = .running →
    heldEdge ((s.trigger k).filter * 10) (s.triggerWire k) = some c →
    (s.trigger k).Selected → (s.trigger k).holdoffEnd = none → NoHomingOn s k →
    (∀ x ∈ [src, src'], x = .any ∨ x = (match (s.trigger k).level with | .low => .rise | .high => .fall)) →
    i < j → (s.route i).Ready (.trig k src) a → (s.route j).Ready (.trig k src') b →
    b ∈ [.start n, .stop n, .commit n] → NoRouteOn s (.schedDone n) →
    (∀ h, h ≠ i → h ≠ j → (s.route h).hit (.trig k (s.trigger k).edge) = false) →
    let u := (s.runTo c.time).setTriggerWire k c.left
    let v := { u with
      triggers := s.triggers.set k ((s.trigger k).acceptedAt u.now)
      routes := (s.routes.set i (s.route i).actedOnce).set j (s.route j).shadowedOnce }
    let x := s.sched n
    let runs := x.state ≠ .running ∧ x.active ≠ [] ∧ (s.axis n).ref = .referenced
    (a = .start n → exec (.triggerEdge k [] []) s = .next (if runs then
      { v with scheds := s.scheds.set n { x with state := .running, active := listArmed (s.axis n) x.h x.active } }
      else v)) ∧
    (a = .stop n → exec (.triggerEdge k [] []) s = .next
      { v with scheds := s.scheds.set n { x with state := .stopped } }) ∧
    (a = .commit n → (∀ run, x.commit ≠ some (.atTrigger run)) → exec (.triggerEdge k [] []) s = .next v) ∧
    (∀ run, a = .commit n → x.commit = some (.atTrigger run) →
      let new := listArmed (s.axis n) x.h x.staging
      let committed := s.queue.offer s.queue.enables.schedule
        ⟨.schedule n .committed new.length, u.timebase.count, []⟩
      let starts := x.state = .stopped ∧ new ≠ [] ∧ run = true ∧ (s.axis n).ref = .referenced
      let done := x.state = .running ∧ new = []
      exec (.triggerEdge k [] []) s = .next { v with
        free := s.free + x.active.length
        scheds := s.scheds.set n { x with
          active := new, staging := [], commit := none
          state := if starts then .running else if done then .stopped else x.state }
        queue := if done then
            committed.offer s.queue.enables.schedule ⟨.schedule n .done 0, u.timebase.count, []⟩
          else committed })

/-- A source event at the Route Table (R106 to R108, R111, Tables 5-3 and 5-4), whatever its kind: INDEX, MARK,
AXIS_LOST, SCHED_DONE, or TRIG under a route that names its edge or ANY. With no route on it nothing changes. With one
ready route on it, that route has acted, and nothing else changes but by its action: a CAPTURE makes a record with the
event's time and the positions of its axes in ascending order, an OUTPUT issues its action, a START runs a schedule
that is not RUNNING, has entries and a REFERENCED axis (R57), a STOP stops it (R58), and a COMMIT makes a pending
AT_TRIGGER commit take effect by Table 3-3 and leaves anything else (R65, R67); one that completes the schedule makes
a DONE record (R61), no route being set on the completion. -/
def Obligations.SourceEventsReachTheirRoutes : Prop :=
  ∀ (s : State) (e : EventSource) (time : Ticks),
    (NoRouteOn s e → sendEvent e time s = s) ∧
    (∀ (i : RouteId) (src : RouteSource) (a : RouteAction), (s.route i).Ready src a →
      (match src, e with
        | .trig k .any, .trig j _ => j = k
        | .trig k .rise, .trig j .rise => j = k
        | .trig k .fall, .trig j .fall => j = k
        | .index n, .index m => m = n
        | .mark n x, .mark m y => m = n ∧ y = x
        | .axisLost n, .axisLost m => m = n
        | .schedDone n, .schedDone m => m = n
        | _, _ => False) →
      (∀ j, j ≠ i → (s.route j).hit e = false) →
      let v := { s with routes := s.routes.set i (s.route i).actedOnce }
      let source : CaptureSource := match e with
        | .trig k edge => .trig k edge | .index _ => .index | .mark _ _ => .mark | .axisLost _ => .axisLost
        | .schedDone _ => .schedDone
      (∀ set, a = .capture set → sendEvent e time s = { v with
        queue := s.queue.receive ⟨.capture (some i) source (s.route i).divider, time,
          (([0, 1, 2, 3] : List AxisId).filter fun n => set.getLsbD n.val).map fun n => (s.axis n).posWord n⟩ }) ∧
      (∀ l act, a = .output l act → sendEvent e time s = issueAction l act v) ∧
      (∀ n,
        let x := s.sched n
        let runs := x.state ≠ .running ∧ x.active ≠ [] ∧ (s.axis n).ref = .referenced
        (a = .start n → sendEvent e time s = if runs then
          { v with scheds := s.scheds.set n { x with state := .running, active := listArmed (s.axis n) x.h x.active } }
          else v) ∧
        (a = .stop n → sendEvent e time s = { v with scheds := s.scheds.set n { x with state := .stopped } }) ∧
        (a = .commit n → (∀ run, x.commit ≠ some (.atTrigger run)) → sendEvent e time s = v) ∧
        (∀ run, a = .commit n → x.commit = some (.atTrigger run) →
          let new := listArmed (s.axis n) x.h x.staging
          let committed := s.queue.offer s.queue.enables.schedule
            ⟨.schedule n .committed new.length, s.timebase.count, []⟩
          let starts := x.state = .stopped ∧ new ≠ [] ∧ run = true ∧ (s.axis n).ref = .referenced
          let done := x.state = .running ∧ new = []
          (done → NoRouteOn s (.schedDone n)) →
          sendEvent e time s = { v with
            free := s.free + x.active.length
            scheds := s.scheds.set n { x with
              active := new, staging := [], commit := none
              state := if starts then .running else if done then .stopped else x.state }
            queue := if done then
                committed.offer s.queue.enables.schedule ⟨.schedule n .done 0, s.timebase.count, []⟩
              else committed })))

/-! ### The Record Queue and Record Delivery -/

/-- CAPTURE_NOW (R135, R138, R140): the positions as they stand, in ascending axis order, with route 0xFF, source HOST
and N 0; the reply names the number given, or LOST. Below 256 records the record is admitted at the newest end; at 256
only the two loss counts change. RECORD_CONFIG (R133) replaces the four kind enables and nothing else; a byte that is
neither 0 nor 1 is refused. -/
def Obligations.CaptureNowAdmitsOrLosesByTheQueue : Prop :=
  (∀ (s : State) (r : Request) (rest : List Request) (b : Byte), Takes s r rest → Attached s →
     r.op = 0x50#8 → r.payload = [b] → b ≠ 0#8 → b.toNat < 16 →
     let item : Item := ⟨.capture none .host 0, s.timebase.count,
       (([0, 1, 2, 3] : List AxisId).filter fun n => b.getLsbD n.val).map fun n => (s.axis n).posWord n⟩
     (s.queue.records.length < 256 →
       exec .captureNow s = .next (State.replied
         { s with queue := { s.queue with
           records := s.queue.records ++ [⟨s.queue.next, item⟩], next := s.queue.next + 1#32
           totalAdmitted := s.queue.totalAdmitted + 1#32 } }
         r rest .ok (0#8 :: wordBytes s.queue.next))) ∧
     (256 ≤ s.queue.records.length →
       exec .captureNow s = .next (State.replied
         { s with queue := { s.queue with
           pendingLoss := min (s.queue.pendingLoss + 1) 4294967295
           totalLost := min (s.queue.totalLost + 1) 4294967295 } }
         r rest .ok (1#8 :: wordBytes 0#32)))) ∧
  (∀ (s : State) (r : Request) (rest : List Request), Takes s r rest → Attached s → r.op = 0x51#8 →
     (∀ e : KindEnables,
       r.payload = [flagByte e.axis, flagByte e.schedule, flagByte e.output, flagByte e.timeSync] →
       exec .recordConfig s = .next (State.replied { s with queue := { s.queue with enables := e } } r rest .ok [])) ∧
     (∀ a b c d : Byte, r.payload = [a, b, c, d] → 1 < a.toNat ∨ 1 < b.toNat ∨ 1 < c.toNat ∨ 1 < d.toNat →
       exec .recordConfig s = .next (s.replied r rest .badParam [])))

/-- DELIVERY_CONFIG (R161): the settings are replaced, the send point falls back to the oldest record, the high mark
is limited to the new W, the timer stops and the stall ends; the reply is the status after it. FETCH (R158, R159):
refused in STREAM mode with the status and no change; in POLL mode it returns the k oldest records and moves the send
point, and the high mark if it is passed, to the number after them. The records a FETCH returns (R158): as many as
asked for, as the window holds, as the queue holds and as fit into the 246 bytes of a payload beside its 21 fixed
ones, and no fewer; a non-empty queue of records of at most four position words gives at least one. -/
def Obligations.DeliveryConfigAndFetchMoveTheSendPoint : Prop :=
  (∀ (s : State) (r : Request) (rest : List Request) (mode : DeliveryMode) (w t0 t1 : Byte),
     Takes s r rest → Attached s → r.op = 0x53#8 → r.payload = [mode.code, w, t0, t1] →
     1 ≤ w.toNat → w.toNat ≤ 16 → 10 ≤ t0.toNat * 256 + t1.toNat → t0.toNat * 256 + t1.toNat ≤ 10000 →
     let t : State := { s with delivery := { s.delivery with
       mode := mode, window := w.toNat, ackTimeout := t0.toNat * 256 + t1.toNat
       sendPoint := s.queue.oldest
       highMark := if s.queue.distance s.delivery.highMark ≤ w.toNat then s.delivery.highMark
         else s.queue.oldest + BitVec.ofNat 32 w.toNat
       ackTimer := none, timeouts := 0, stalled := false } }
     exec .deliveryConfig s = .next (t.replied r rest .ok (deliveryPayload t))) ∧
  (∀ (s : State) (r : Request) (rest : List Request) (n : Byte), Takes s r rest → Attached s →
     r.op = 0x54#8 → r.payload = [n] → 1 ≤ n.toNat → n.toNat ≤ 16 →
     (s.delivery.mode = .stream → exec .fetch s = .next (s.replied r rest .wrongState (deliveryPayload s))) ∧
     (s.delivery.mode = .poll →
       let k := fetchCount n.toNat s
       let point := s.queue.oldest + BitVec.ofNat 32 k
       let high := if s.queue.distance s.delivery.highMark < s.queue.distance point then point else s.delivery.highMark
       exec .fetch s = .next (State.replied
         { s with delivery := { s.delivery with sendPoint := point, highMark := high } } r rest .ok
         ([byteOf k] ++ bytesBE 2 s.queue.records.length ++ wordBytes s.queue.oldest ++ wordBytes s.queue.next
           ++ wordBytes point ++ wordBytes high ++ bytesBE 2 s.delivery.ackErrors
           ++ ((s.queue.records.take k).map Record.encode).flatten)))) ∧
  (∀ (s : State) (n : Nat),
     let k := fetchCount n s
     let size (j : Nat) := ((s.queue.records.take j).map fun x => 20 + 9 * x.item.positions.length).sum
     21 + size k ≤ 246 ∧ k ≤ n ∧ k ≤ s.delivery.window ∧ k ≤ s.queue.records.length ∧
     (k < n → k < s.delivery.window → k < s.queue.records.length → 246 < 21 + size (k + 1)) ∧
     (1 ≤ n → 1 ≤ s.delivery.window → (∀ x ∈ s.queue.records, x.item.positions.length ≤ 4) →
       s.queue.records ≠ [] → 1 ≤ k) ∧
     (∀ x : Record, x.encode.length = 20 + 9 * x.item.positions.length))

/-- ACK_TIMEOUT (R153): the send point falls back to the oldest record, the timer stops, the count rises by 1, and the
eighth expiry in a row stalls delivery; the high mark stays. That time runs on to the moment within the command is the
model's choice of notes/assumptions/6.md. KEEPALIVE_EXPIRY (R182, R183): the session ends, waiting requests are
discarded, the cache is emptied, delivery is reset, and the loss action is applied: NONE touches nothing else,
SAFE_OUTPUTS enters SAFE, SAFE_AND_STOP also stops every schedule. That time runs on to the moment within the command
is the model's choice of notes/assumptions/6.md. That both halves of the loss action come within the command, SAFE
first, is that of notes/assumptions/21.md. -/
def Obligations.TimersExpireWithTheirEffects : Prop :=
  (∀ (s : State) (e : Nat), s.phase = .running → s.delivery.ackTimer = some e →
     exec .ackTimeout s = .next { s.runTo e with
       delivery := { s.delivery with
         sendPoint := s.queue.oldest, ackTimer := none, timeouts := s.delivery.timeouts + 1
         stalled := if 8 ≤ s.delivery.timeouts + 1 then true else s.delivery.stalled } }) ∧
  (∀ (s : State) (e : Nat) (p : Session), s.phase = .running → s.link.keepalive = some e → s.link.session = some p →
     let ended : State := { s.runTo e with
       link := { s.link with
         session := none, keepalive := none, waiting := [], cache := []
         hold := if s.link.hold = .detach then .none else s.link.hold }
       delivery := { s.delivery with
         sendPoint := s.queue.oldest, highMark := s.queue.oldest, ackTimer := none, timeouts := 0
         stalled := false } }
     let safe : State := if s.safe then ended else { ended with
       lines := s.lines.map fun x => { x with
         running := none, waiting := none
         lastPulseEnd := match x.running with
           | some ⟨_, .active, _, _⟩ => some (s.runTo e).now
           | _ => x.lastPulseEnd }
       safe := true
       queue := s.queue.offer s.queue.enables.output
         ⟨.safeEntered (Config.allLines.countP fun l => (s.line l).waiting ≠ none)
           (Config.allLines.countP fun l => (s.line l).running ≠ none), (s.runTo e).timebase.count, []⟩ }
     (p.loss = .none → exec .keepaliveExpiry s = .next ended) ∧
     (p.loss = .safeOutputs → exec .keepaliveExpiry s = .next safe) ∧
     (p.loss = .safeAndStop → exec .keepaliveExpiry s = .next { safe with
       scheds := s.scheds.map fun c => { c with state := .stopped } }))

/-- A valid ACK (R141, R142, R155): in every state that keeps the queue's and the delivery's order, the named record
and all before it leave, a GAP record reports pending losses, the send point stays or moves past the named record, the
stall ends, and the timer restarts in STREAM mode while records are outstanding. FRAME_RECEIVED and CHARACTER_RECEIVED
of the last byte are the same. A valid NAK (R157) moves the send point to its record and removes nothing; a notice
that names no record delivered at least once, or whose payload is not four bytes, only raises the ack-error count
(R156). FRAME_RECEIVED and the CHARACTER_RECEIVED of a frame's last byte have one meaning: the model's choice of
notes/assumptions/10.md. -/
def Obligations.NoticesMoveDelivery : Prop :=
  (∀ (s : State) (len high low kind tag status : Byte) (payload : List Byte),
     LastByte s len high low (kind :: tag :: 0x70#8 :: status :: payload) → kind.toNat % 16 = 4 →
     payload.length = 4 → QueueInv s.queue → DeliveryInv s → Attached s →
     s.queue.distance (wordBE payload) < s.queue.distance s.delivery.highMark →
     let x := wordBE payload
     let left := s.queue.records.drop (s.queue.distance x + 1)
     let t : State := { s.heard with
       link := { s.heard.link with stats := s.link.stats.accept }
       queue := if s.queue.pendingLoss = 0 then { s.queue with records := left }
         else { s.queue with
           records := left ++ [⟨s.queue.next, ⟨.gap s.queue.pendingLoss, s.timebase.count, []⟩⟩]
           next := s.queue.next + 1#32, pendingLoss := 0, totalAdmitted := s.queue.totalAdmitted + 1#32 }
       delivery := { s.delivery with
         sendPoint := if s.queue.distance x < s.queue.distance s.delivery.sendPoint then s.delivery.sendPoint
           else x + 1#32
         ackTimer := if s.delivery.mode = .stream ∧
             s.queue.distance x + 1 < s.queue.distance s.delivery.sendPoint
           then some (s.now + s.delivery.ackTimeout * 100000) else none
         timeouts := 0, stalled := false } }
     exec (.frameReceived low) s = .next t ∧ exec (.characterReceived low) s = .next t) ∧
  (∀ (s : State) (len high low kind tag op status : Byte) (payload : List Byte),
     LastByte s len high low (kind :: tag :: op :: status :: payload) → kind.toNat % 16 = 4 → Attached s →
     let x := wordBE payload
     let heard : State := { s.heard with link := { s.heard.link with stats := s.link.stats.accept } }
     (op = 0x71#8 → payload.length = 4 → s.queue.distance x < s.queue.distance s.delivery.highMark →
       exec (.frameReceived low) s = .next { heard with
         delivery := { s.delivery with
           sendPoint := x
           ackTimer := if s.delivery.mode = .stream ∧ x ≠ s.queue.oldest
             then some (s.now + s.delivery.ackTimeout * 100000) else none
           timeouts := 0, stalled := false } }) ∧
     (op = 0x70#8 ∨ op = 0x71#8 →
       payload.length ≠ 4 ∨ s.queue.distance s.delivery.highMark ≤ s.queue.distance x →
       exec (.frameReceived low) s = .next { heard with
         delivery := { s.delivery with ackErrors := min (s.delivery.ackErrors + 1) 65535 } }))

/-! ### The Host Link -/

/-- TX_TAKE_FRAME (R177, R181, R182, R186, R149, R150): a FREE transmitter takes the oldest reply first, then HELLO,
then the offered record; the reply of a DETACH ends the session. While DETACHED it takes no record. TX_FRAME_COMPLETE
(R167, R177): the transmitter is FREE; after the reply of a LINK_CONFIG the new rate applies and a frame in progress
is discarded uncounted. -/
def Obligations.TransmitterTakesByRankAndIsFreed : Prop :=
  (∀ s : State, s.phase = .running → s.link.transmitter = .free →
     (∀ q qs, s.link.replies = q :: qs → q.closing ≠ .sessionEnd →
       exec .txTakeFrame s = .next { s with
         link := { s.link with replies := qs, transmitter := .sending q.reply.frame q.closing } }) ∧
     (∀ q qs, s.link.replies = q :: qs → q.closing = .sessionEnd →
       exec .txTakeFrame s = .next { s with
         link := { s.link with
           replies := qs, transmitter := .sending q.reply.frame .sessionEnd, session := none, keepalive := none
           waiting := [], cache := [], hold := if s.link.hold = .detach then .none else s.link.hold }
         delivery := { s.delivery with
           sendPoint := s.queue.oldest, highMark := s.queue.oldest, ackTimer := none, timeouts := 0
           stalled := false } }) ∧
     (∀ h, s.link.replies = [] → s.link.hello = some h →
       exec .txTakeFrame s = .next { s with
         link := { s.link with hello := none, transmitter := .sending h.frame .nothing } }) ∧
     (∀ x, s.link.replies = [] → s.link.hello = none → s.delivery.mode = .stream → Attached s →
       s.delivery.stalled = false → s.queue.distance s.delivery.sendPoint < s.delivery.window →
       s.delivery.sendPoint ≠ s.queue.next →
       s.queue.records[s.queue.distance s.delivery.sendPoint]? = some x →
       exec .txTakeFrame s = .next { s with
         link := { s.link with transmitter := .sending x.frame .nothing }
         delivery := { s.delivery with
           sendPoint := s.delivery.sendPoint + 1#32
           highMark := if s.queue.distance s.delivery.highMark < s.queue.distance (s.delivery.sendPoint + 1#32)
             then s.delivery.sendPoint + 1#32 else s.delivery.highMark
           ackTimer := if s.queue.distance s.delivery.sendPoint = 0
             then some (s.now + s.delivery.ackTimeout * 100000) else s.delivery.ackTimer } }) ∧
     (s.link.replies = [] → s.link.hello = none → s.link.session = none → exec .txTakeFrame s = .next s)) ∧
  (∀ (s : State) (frame : List Byte) (closing : Closing), s.phase = .running →
     s.link.transmitter = .sending frame closing →
     (closing = .nothing ∨ closing = .sessionEnd →
       exec .txFrameComplete s = .next { s with link := { s.link with transmitter := .free } }) ∧
     (∀ b, closing = .rate b →
       exec .txFrameComplete s = .next { s with
         link := { s.link with transmitter := .free, baud := b, receiver := .hunt } }))

/-- CHARACTER_RECEIVED, LENGTH_ERROR, CHARACTER_ERROR and INTER_BYTE_GAP (R168, R170): the receiver's moves up to the
last byte of a frame, with the counts of what it discards. That time runs on to the moment within the command is the
model's choice of notes/assumptions/6.md. That a length byte out of range has one effect under CHARACTER_RECEIVED and
under LENGTH_ERROR, two names of one event, is the model's choice of notes/assumptions/10.md. A character on RXD and
TXD is 8N1 (R166): a start bit at the low level, eight data bits with the least significant first, and a stop bit at
the high level; a frame goes out as its characters back to back, and a FREE transmitter leaves the line at its idle
level, high. Sampled with its stop bit high a character is received with its byte; with its stop bit low it is a
character error (R170). -/
def Obligations.CharactersMoveTheReceiver : Prop :=
  (∀ (s : State) (b : Byte), s.phase = .running →
     let moved (v : Receiver) : Host.Outcome State Fault Refusal :=
       .next { s with link := { s.link with receiver := v, rxLast := s.now } }
     let lengthError : Host.Outcome State Fault Refusal :=
       .next { s with link := { s.link with
         receiver := .hunt, rxLast := s.now
         stats := { s.link.stats with lengthErrors := min (s.link.stats.lengthErrors + 1) 65535 } } }
     (s.link.receiver = .hunt → exec (.characterReceived b) s = if b = 0xA5#8 then moved .length else .next s) ∧
     (s.link.receiver = .length → 4 ≤ b.toNat → b.toNat ≤ 250 → exec (.characterReceived b) s = moved (.body b [])) ∧
     (s.link.receiver = .length → b.toNat < 4 ∨ 250 < b.toNat →
       exec (.characterReceived b) s = lengthError ∧ exec (.lengthError b) s = lengthError) ∧
     (∀ len got, s.link.receiver = .body len got →
       exec (.characterReceived b) s =
         if got.length + 1 < len.toNat then moved (.body len (got ++ [b])) else moved (.check len (got ++ [b]) none)) ∧
     (∀ len got, s.link.receiver = .check len got none →
       exec (.characterReceived b) s = moved (.check len got (some b))) ∧
     exec .characterError s = .next { s with link := { s.link with
       receiver := .hunt
       stats := { s.link.stats with characterErrors := min (s.link.stats.characterErrors + 1) 65535 } } } ∧
     (s.link.receiver ≠ .hunt →
       exec .interByteGap s = .next { s.runTo (s.link.rxLast + 200001) with link := { s.link with
         receiver := .hunt, stats := { s.link.stats with gapDiscards := min (s.link.stats.gapDiscards + 1) 65535 } } }) ∧
     (s.link.receiver = .hunt → exec .interByteGap s = .next s)) ∧
  ((∀ b : Byte, ∃ d : Fin 8 → Level, (∀ i, d i = .high ↔ b.getLsbD i.val = true) ∧
     characterLevels b = [.low, d 0, d 1, d 2, d 3, d 4, d 5, d 6, d 7, .high] ∧
     sampleCharacter [.low, d 0, d 1, d 2, d 3, d 4, d 5, d 6, d 7, .high] = some (.characterReceived b) ∧
     sampleCharacter [.low, d 0, d 1, d 2, d 3, d 4, d 5, d 6, d 7, .low] = some .characterError) ∧
   (∀ levels c, sampleCharacter levels = some c → levels.length = 10 ∧ levels.head? = some .low) ∧
   (∀ frame closing, (Transmitter.sending frame closing).levels = (frame.map characterLevels).flatten) ∧
   Transmitter.free.levels = [] ∧ idleLevel = .high)

/-- The last byte of a frame (R169, R171, R172, R173): a wrong CRC discards and counts it; a request enters the intake
or is lost at a full one; a notice while DETACHED and a frame of any other kind are discarded and counted. -/
def Obligations.CheckedFramesGoWhereTheirKindSays : Prop :=
  ∀ (s : State) (len high low kind tag op status : Byte) (payload : List Byte),
    let body := kind :: tag :: op :: status :: payload
    let with_ (t : LinkStats) (waiting : List Request) : Host.Outcome State Fault Refusal :=
      .next { s.heard with link := { s.heard.link with stats := t, waiting := waiting } }
    (s.phase = .running → s.link.receiver = .check len body (some high) → high ++ low ≠ crc (len :: body) →
      exec (.frameReceived low) s = .next { s with link := { s.link with
        receiver := .hunt, rxLast := s.now
        stats := { s.link.stats with crcErrors := min (s.link.stats.crcErrors + 1) 65535 } } }) ∧
    (LastByte s len high low body → kind.toNat % 16 = 1 → s.link.waiting.length + s.link.replies.length < 4 →
      exec (.frameReceived low) s = with_ s.link.stats.accept (s.link.waiting ++
        [⟨kind.msb, tag, op, payload, crc (len :: (kind &&& 0x7F#8) :: tag :: op :: status :: payload)⟩])) ∧
    (LastByte s len high low body → kind.toNat % 16 = 1 → 4 ≤ s.link.waiting.length + s.link.replies.length →
      exec (.frameReceived low) s = with_
        { s.link.stats.accept with intakeOverruns := min (s.link.stats.intakeOverruns + 1) 65535 } s.link.waiting) ∧
    (LastByte s len high low body → kind.toNat % 16 = 4 → op = 0x70#8 ∨ op = 0x71#8 → s.link.session = none →
      exec (.frameReceived low) s = with_
        { s.link.stats.accept with discardedNotices := min (s.link.stats.discardedNotices + 1) 65535 }
        s.link.waiting) ∧
    (LastByte s len high low body →
      (kind.toNat % 16 ≠ 1 ∧ kind.toNat % 16 ≠ 4) ∨ (kind.toNat % 16 = 4 ∧ op ≠ 0x70#8 ∧ op ≠ 0x71#8) →
      exec (.frameReceived low) s = with_
        { s.link.stats with wrongKind := min (s.link.stats.wrongKind + 1) 65535 } s.link.waiting)

/-- A request frame sent byte by byte is received whole (R168, R169, R171, R194): from HUNT with room in the intake,
the bytes of a frame of kind REQUEST leave the receiver in HUNT with exactly that request waiting, its fingerprint the
CRC of the frame with RETRY clear, one more frame accepted and a running keepalive timer restarted. FRAME_RECEIVED and
the CHARACTER_RECEIVED of a frame's last byte have one meaning: the model's choice of notes/assumptions/10.md. -/
def Obligations.RequestFrameSentIsReceivedWhole : Prop :=
  ∀ (s : State) (retry : Bool) (tag op status : Byte) (payload : List Byte),
    s.phase = .running → s.link.receiver = .hunt → payload.length ≤ 246 →
    s.link.waiting.length + s.link.replies.length < 4 →
    follow ((encodeFrame (if retry then 0x81#8 else 0x01#8) tag op status payload).map .characterReceived) s =
      some { s.heard with link := { s.heard.link with
        stats := s.link.stats.accept
        waiting := s.link.waiting ++ [⟨retry, tag, op, payload,
          crc (byteOf (4 + payload.length) :: 0x01#8 :: tag :: op :: status :: payload)⟩] } }

/-- ATTACH (R178, R179): it opens the session, or replaces it with the cache emptied and delivery reset; the reply
carries the queue's oldest and next numbers, occupancy and pending losses. DETACH, RESTART, LINK_CONFIG and LINK_STATS
(R167, R181, R188, R189): DETACH stops the keepalive timer and, like RESTART, holds the dispatcher, and neither reply
is stored; LINK_CONFIG changes nothing yet; LINK_STATS reports the counters and clears them if asked. -/
def Obligations.SessionAndLinkRequestsOrderTheirEffect : Prop :=
  (∀ (s : State) (r : Request) (rest : List Request) (k0 k1 : Byte) (loss : LossAction),
     Takes s r rest → r.op = 0x03#8 → r.payload = [k0, k1, loss.code] →
     let keepalive := k0.toNat * 256 + k1.toNat
     keepalive = 0 ∨ (10 ≤ keepalive ∧ keepalive ≤ 60000) →
     let reply := wordBytes s.queue.oldest ++ wordBytes s.queue.next ++ bytesBE 2 s.queue.records.length
       ++ bytesBE 4 s.queue.pendingLoss
     let timer := if keepalive = 0 then none else some (s.now + keepalive * 100000)
     (s.link.session = none →
       exec .attach s = .next (State.replied
         { s with link := { s.link with session := some ⟨keepalive, loss⟩, keepalive := timer } } r rest .ok reply)) ∧
     (s.link.session ≠ none →
       exec .attach s = .next (State.replied
         { s with
           link := { s.link with session := some ⟨keepalive, loss⟩, keepalive := timer, cache := [] }
           delivery := { s.delivery with
             sendPoint := s.queue.oldest, highMark := s.queue.oldest, ackTimer := none, timeouts := 0
             stalled := false } } r rest .ok reply))) ∧
  (∀ (s : State) (r : Request) (rest : List Request), Takes s r rest →
     (Attached s → r.op = 0x04#8 → r.payload = [] →
       exec .detach s = .next { s with link := { s.link with
         waiting := rest, keepalive := none, hold := .detach
         replies := s.link.replies ++ [⟨replyTo r .ok [], .sessionEnd⟩] } }) ∧
     (r.op = 0x07#8 → r.payload = [] →
       exec .restart s = .next { s with link := { s.link with
         waiting := rest, hold := .restart, replies := s.link.replies ++ [⟨replyTo r .ok [], .warmReset⟩] } }) ∧
     (∀ b : Baud, r.op = 0x05#8 → r.payload = [b.code] →
       exec .linkConfig s = .next { s with link := { s.link with
         waiting := rest, replies := s.link.replies ++ [⟨replyTo r .ok [], .rate b⟩]
         cache := if s.link.session.isSome then cacheAfter r (replyTo r .ok []) s.link.cache else s.link.cache } }) ∧
     (∀ clear : Bool, r.op = 0x06#8 → r.payload = [flagByte clear] →
       let c := s.link.stats
       exec .linkStats s = .next (State.replied
         { s with link := { s.link with stats := if clear then ⟨0#32, 0, 0, 0, 0, 0, 0, 0, 0⟩ else c } } r rest .ok
         (wordBytes c.framesAccepted ++ bytesBE 2 c.crcErrors ++ bytesBE 2 c.lengthErrors
           ++ bytesBE 2 c.characterErrors ++ bytesBE 2 c.gapDiscards ++ bytesBE 2 c.intakeOverruns
           ++ bytesBE 2 c.retriesServed ++ bytesBE 2 c.discardedNotices ++ bytesBE 2 c.wrongKind))))

/-- The reading requests change nothing but the link's own books, and reply with the values held (R25, R39, R73, R92,
R104, R114, R144, R187). The reply payloads have the lengths of Table 10-4. The bytes of the replies of AXIS_READ,
SCHED_READ, OUTPUT_READ, TRIGGER_READ, ROUTE_READ and QUEUE_READ, by Tables 10-7 to 10-9 with the codes of Table 10-1
(R192, R193, R200 to R202). The next armed entry above and below in a SCHED_READ reply (R73): the tag of the armed
entry that lies nearest in that direction, counted on a LINEAR axis by the positions greater (less) than its own and
on a ROTARY axis UP (DOWN) around the circle, never at the position itself; of several at one distance the earliest in
list order; 0 when there is none. -/
def Obligations.ReadingRequestsReplyWithTheValuesHeld : Prop :=
  (∀ (s : State) (r : Request) (rest : List Request), Takes s r rest →
     (r.op = 0x01#8 → r.payload = [] → exec .identify s = .next (s.replied r rest .ok
       [0x3A#8, 0x17#8, 0x04#8, 0xC4#8, 2#8, 4#8, 8#8, 6#8, 16#8, 2#8, 0#8, 1#8, 0#8])) ∧
     (r.op = 0x02#8 → r.payload.length ≤ 246 → exec .ping s = .next (s.replied r rest .ok r.payload)) ∧
     (∀ n : AxisId, Attached s → r.op = 0x11#8 → r.payload = [byteOf n.val] →
       exec .axisRead s = .next (s.replied r rest .ok (axisPayload n (s.axis n)))) ∧
     (∀ n : AxisId, Attached s → r.op = 0x29#8 → r.payload = [byteOf n.val] →
       exec .schedRead s = .next (s.replied r rest .ok (schedPayload (s.axis n) (s.sched n) s.free))) ∧
     (∀ (n : AxisId) (staging : Bool) (t0 t1 : Byte), Attached s → r.op = 0x2A#8 →
       r.payload = [byteOf n.val, flagByte staging, t0, t1] → t0.toNat * 256 + t1.toNat ≠ 0 →
       let es := if staging then (s.sched n).staging else (s.sched n).active
       ((∀ e ∈ es, e.tag ≠ t0.toNat * 256 + t1.toNat) →
         exec .entryRead s = .next (s.replied r rest .noEntry [])) ∧
       (∀ front e back, es = front ++ e :: back → e.tag = t0.toNat * 256 + t1.toNat →
         (∀ x ∈ front, x.tag ≠ e.tag) →
         exec .entryRead s = .next (s.replied r rest .ok (e.encode ++ [flagByte e.armed] ++ bytesBE 2 e.fires)))) ∧
     (Attached s → r.op = 0x33#8 → r.payload = [] →
       exec .outputRead s = .next (s.replied r rest .ok (outputPayload s))) ∧
     (∀ k : TriggerId, Attached s → r.op = 0x41#8 → r.payload = [byteOf k.val] →
       exec .triggerRead s = .next (s.replied r rest .ok (triggerPayload (s.trigger k)))) ∧
     (∀ i : RouteId, Attached s → r.op = 0x44#8 → r.payload = [byteOf i.val] →
       exec .routeRead s = .next (s.replied r rest .ok (routePayload (s.route i)))) ∧
     (Attached s → r.op = 0x52#8 → r.payload = [] →
       exec .queueRead s = .next (s.replied r rest .ok (queuePayload s.queue)))) ∧
  (∀ (s : State) (n : AxisId) (e : Entry) (k : TriggerId) (i : RouteId),
     (axisPayload n (s.axis n)).length = 28 ∧ (schedPayload (s.axis n) (s.sched n) s.free).length = 23 ∧
     (entryPayload e).length = 17 ∧ (outputPayload s).length = 217 ∧ (triggerPayload (s.trigger k)).length = 12 ∧
     (routePayload (s.route i)).length = 22 ∧ (queuePayload s.queue).length = 26 ∧
     (deliveryPayload s).length = 24 ∧ (timePayload s.timebase).length = 15 ∧
     (statsPayload s.link.stats).length = 20 ∧ (attachPayload s.queue).length = 14 ∧ identifyPayload.length = 13) ∧
  ((∀ v : Nat, bytesBE 2 v = [BitVec.ofNat 8 (v / 256), BitVec.ofNat 8 v] ∧
     bytesBE 4 v = [BitVec.ofNat 8 (v / 16777216), BitVec.ofNat 8 (v / 65536), BitVec.ofNat 8 (v / 256),
       BitVec.ofNat 8 v] ∧ byteOf v = BitVec.ofNat 8 v ∧ flagByte true = 1#8 ∧ flagByte false = 0#8) ∧
   (∀ (n : AxisId) (x : Axis), axisPayload n x =
     [match x.ref with | .unreferenced => 0#8 | .seeking _ => 1#8 | .referenced => 2#8 | .lost _ => 3#8,
       match x.ref with | .seeking .awaitGate => 1#8 | .seeking .awaitReference => 2#8 | _ => 0#8, byteOf n.val] ++
     bytesBE 4 (match x.position with | .linear _ => 0 | .rotary turn _ => turn.toNat) ++
     bytesBE 4 (match x.position with | .linear v => (BitVec.ofInt 32 v).toNat | .rotary _ a => a % 2 ^ 32) ++
     [match x.lastDir with | .up => 1#8 | .down => 2#8] ++ bytesBE 2 x.errors ++
     [match x.ref with | .lost .quadErrors => 1#8 | .lost .overrange => 2#8 | .lost .slip => 3#8 | _ => 0#8,
       byteOf n.val] ++
     bytesBE 4 x.lastIndexTurn.toNat ++ bytesBE 4 x.lastIndexValue.toNat ++
     bytesBE 4 (BitVec.ofInt 32 x.lastSlip).toNat) ∧
   (∀ (x : Axis) (c : Schedule) (free : Nat), schedPayload x c free =
     [match c.state with | .stopped => 0#8 | .running => 1#8 | .held => 2#8] ++
     bytesBE 2 c.active.length ++ bytesBE 2 c.staging.length ++
     (match c.commit with
       | none => [0#8, 0#8, 0#8, 0#8, 0#8, 0#8]
       | some (.atTrigger run) => [2#8, 0#8, 0#8, 0#8, 0#8, flagByte run]
       | some (.atPosition p run) => [3#8] ++ bytesBE 4 (BitVec.ofInt 32 p).toNat ++ [flagByte run]) ++
     bytesBE 2 c.h ++ bytesBE 2 (nearestTag x.above c.active) ++ bytesBE 2 (nearestTag x.below c.active) ++
     bytesBE 4 c.total.toNat ++ bytesBE 2 free) ∧
   (∀ s : State, outputPayload s = flagByte s.safe ::
     (([0, 1, 2, 3, 4, 5, 6, 7] : List LineId).map fun l =>
       let x := s.line l
       let kind (a : OutAction) : Byte := match a with
         | .timed (.pulse _) => 1#8 | .set => 2#8 | .clear => 3#8 | .toggle => 4#8 | .timed (.train _ _ _) => 5#8
       let params (a : OutAction) : List Byte := match a with
         | .timed (.pulse w) => bytesBE 2 w ++ [0#8, 0#8, 0#8, 0#8]
         | .timed (.train w count period) => bytesBE 2 w ++ bytesBE 2 count ++ bytesBE 2 period
         | _ => [0#8, 0#8, 0#8, 0#8, 0#8, 0#8]
       [levelCode (x.pin s.safe), levelCode x.steady, levelCode x.idle, levelCode x.safeLevel,
         match x.policy with | .preempt => 0#8 | .queue => 1#8 | .drop => 2#8, flagByte x.report] ++
       (match x.running with
         | none => [0#8, 0#8, 0#8, 0#8, 0#8, 0#8, 0#8, 0#8, 0#8, 0#8]
         | some r => [kind (.timed r.action)] ++ params (.timed r.action) ++
           [match r.phase with | .lead => 0#8 | .active => 1#8 | .gap => 2#8] ++ bytesBE 2 r.remaining) ++
       (match x.waiting with
         | none => [0#8, 0#8, 0#8, 0#8, 0#8, 0#8, 0#8]
         | some a => [kind a] ++ params a) ++
       bytesBE 2 x.drops ++ bytesBE 2 x.preempts).flatten) ∧
   (∀ t : Trigger, triggerPayload t =
     [match t.level with | .low => 0#8 | .high => 1#8,
       match t.selection with | .off => 0#8 | .rise => 1#8 | .fall => 2#8 | .both => 3#8, byteOf t.filter] ++
     bytesBE 2 t.holdoff ++ [flagByte (decide (t.holdoffEnd ≠ none))] ++ bytesBE 2 t.accepted ++
     bytesBE 2 t.filtered ++ bytesBE 2 t.heldOff) ∧
   (∀ x : Route, routePayload x = [flagByte x.enable] ++
     (match x.source with
       | none => [0#8, 0#8, 0#8]
       | some (.trig k e) => [1#8, byteOf k.val, match e with | .rise => 1#8 | .fall => 2#8 | .any => 3#8]
       | some (.index n) => [2#8, byteOf n.val, 0#8]
       | some (.mark n m) => [3#8, byteOf n.val, byteOf m.val]
       | some (.axisLost n) => [4#8, byteOf n.val, 0#8]
       | some (.schedDone n) => [5#8, byteOf n.val, 0#8]) ++
     bytesBE 2 x.divider ++
     (match x.action with
       | none => [0#8, 0#8, 0#8, 0#8, 0#8, 0#8, 0#8, 0#8, 0#8]
       | some (.capture set) => [1#8, byteOf set.toNat, 0#8, 0#8, 0#8, 0#8, 0#8, 0#8, 0#8]
       | some (.start n) => [2#8, byteOf n.val, 0#8, 0#8, 0#8, 0#8, 0#8, 0#8, 0#8]
       | some (.stop n) => [3#8, byteOf n.val, 0#8, 0#8, 0#8, 0#8, 0#8, 0#8, 0#8]
       | some (.commit n) => [4#8, byteOf n.val, 0#8, 0#8, 0#8, 0#8, 0#8, 0#8, 0#8]
       | some (.output l (.timed (.pulse w))) => [5#8, byteOf l.val, 1#8] ++ bytesBE 2 w ++ [0#8, 0#8, 0#8, 0#8]
       | some (.output l .set) => [5#8, byteOf l.val, 2#8, 0#8, 0#8, 0#8, 0#8, 0#8, 0#8]
       | some (.output l .clear) => [5#8, byteOf l.val, 3#8, 0#8, 0#8, 0#8, 0#8, 0#8, 0#8]
       | some (.output l .toggle) => [5#8, byteOf l.val, 4#8, 0#8, 0#8, 0#8, 0#8, 0#8, 0#8]
       | some (.output l (.timed (.train w count period))) =>
         [5#8, byteOf l.val, 5#8] ++ bytesBE 2 w ++ bytesBE 2 count ++ bytesBE 2 period) ++
     [byteOf x.counter] ++ bytesBE 2 x.matched ++ bytesBE 2 x.acted ++ bytesBE 2 x.shadowed) ∧
   (∀ q : RecordQueue, queuePayload q =
     bytesBE 2 q.records.length ++
     bytesBE 4 (match q.records with | [] => q.next.toNat | x :: _ => x.seq.toNat) ++ bytesBE 4 q.next.toNat ++
     bytesBE 4 q.pendingLoss ++ bytesBE 4 q.totalLost ++ bytesBE 4 q.totalAdmitted.toNat ++
     [flagByte q.enables.axis, flagByte q.enables.schedule, flagByte q.enables.output, flagByte q.enables.timeSync])) ∧
  (∀ (x : Axis) (es : List Entry) (up : Bool),
     let key (q : Int) : Option Nat := match x.position with
       | .linear v => if up then (if v < q then some (q - v).toNat else none)
         else (if q < v then some (v - q).toNat else none)
       | .rotary _ a =>
         let away := (if up then q - a else a - q) % (x.config.cpr : Int)
         if away = 0 then none else some away.toNat
     let named := nearestTag (if up then x.above else x.below) es
     ((∀ e ∈ es, e.armed = true → key e.position = none) → named = 0) ∧
     (∀ front e back dist, es = front ++ e :: back → e.armed = true → key e.position = some dist →
       (∀ y ∈ front, y.armed = true → ∀ away, key y.position = some away → dist < away) →
       (∀ y ∈ back, y.armed = true → ∀ away, key y.position = some away → dist ≤ away) → named = e.tag))

/-- The dispatch checks (R175): while DETACHED a request that needs the session is refused with NOT_ATTACHED; a
payload of the wrong length is refused with BAD_LENGTH; an op that is no request is refused with UNKNOWN_OP. Nothing
else changes. Refused DETACH and RESTART requests are left out: their replies are not stored
(notes/assumptions/12.md). A parameter out of range is refused with BAD_PARAM and changes nothing else (R203): the
number of an axis, a line, an input or a route, whatever the request that names one alone; an empty or too wide axis
set; a FETCH of 0 or more than 16. A request of several parameters is refused with BAD_PARAM, and nothing else
changes, when any of them is out of range (R203, with the ranges of Tables 10-1, 10-5 and 10-7 to 10-10), whatever the
block would have said of it: every byte that is checked, at every value out of its range; the input k of a HOME under
the trigger sources alone; a ROTARY position by the CPR of its axis; the parameters of an output action, a source and
an action by their kind or type; any entry of a batch. -/
def Obligations.WrongRequestsAreRefusedAndChangeNothing : Prop :=
  (∀ (s : State) (r : Request) (rest : List Request), Takes s r rest →
     (∀ (c : Instr) (op : RequestOp), requestOf c = some op → r.op = op.code → s.link.session = none →
       op ≠ .identify → op ≠ .ping → op ≠ .attach → op ≠ .linkConfig → op ≠ .linkStats → op ≠ .restart →
       exec c s = .next (s.replied r rest .notAttached [])) ∧
     (∀ (c : Instr) (op : RequestOp) (len : Nat), requestOf c = some op → r.op = op.code → Attached s →
       op ≠ .detach → op ≠ .restart → op.fixedLength = some len → r.payload.length ≠ len →
       exec c s = .next (s.replied r rest .badLength [])) ∧
     (Attached s → r.op = 0x20#8 →
       (r.payload.length < 2 ∨ ∃ a c es, r.payload = a :: c :: es ∧ es.length ≠ 14 * c.toNat) →
       exec .stageAdd s = .next (s.replied r rest .badLength [])) ∧
     ((∀ op : RequestOp, op.code ≠ r.op) → exec .unknownOpRequest s = .next (s.replied r rest .unknownOp []))) ∧
  (∀ (s : State) (r : Request) (rest : List Request) (b : Byte), Takes s r rest → Attached s → r.payload = [b] →
     (∀ (c : Instr) (op : RequestOp), requestOf c = some op → r.op = op.code →
       (c ∈ [Instr.axisRead, .homeCancel, .stageClear, .stageCopy, .commitCancel, .schedStart, .schedStop, .schedRead]
         ∧ 4 ≤ b.toNat) ∨ (c = .outputStop ∧ 8 ≤ b.toNat) ∨ (c = .triggerRead ∧ 6 ≤ b.toNat) ∨
         (c ∈ [Instr.routeClear, .routeRead] ∧ 16 ≤ b.toNat) ∨ (c = .captureNow ∧ (b = 0#8 ∨ 16 ≤ b.toNat)) ∨
         (c = .fetch ∧ (b = 0#8 ∨ 17 ≤ b.toNat)) ∨ (c = .linkStats ∧ 2 ≤ b.toNat) ∨
         (c = .linkConfig ∧ 6 ≤ b.toNat) →
       exec c s = .next (s.replied r rest .badParam []))) ∧
  (∀ (s : State) (r : Request) (rest : List Request), Takes s r rest →
     let bad (c : Instr) : Prop := exec c s = .next (s.replied r rest .badParam [])
     let num (high low : Byte) : Nat := high.toNat * 256 + low.toNat
     let outside (n : Byte) (v : Int) : Prop := ∃ m : AxisId, m.val = n.toNat ∧ (s.axis m).position.mode = .rotary ∧
       (v < 0 ∨ ((s.axis m).config.cpr : Int) ≤ v)
     let misfit (kind w count period : Nat) : Prop := kind = 1 ∧ w = 0 ∨
       kind = 5 ∧ (w = 0 ∨ count < 2 ∨ period < 2 ∨ period ≤ w)
     (∀ k0 k1 loss, r.op = 0x03#8 → r.payload = [k0, k1, loss] →
       3 ≤ loss.toNat ∨ (num k0 k1 ≠ 0 ∧ num k0 k1 < 10) ∨ 60000 < num k0 k1 → bad .attach) ∧
     (Attached s →
       (∀ n m i f a c0 c1 c2 c3 tol s0 s1 pol rep lim, r.op = 0x10#8 →
         r.payload = [n, m, i, f, a, c0, c1, c2, c3, tol, s0, s1, pol, rep, lim] →
         let cpr := (num c0 c1 * 256 + c2.toNat) * 256 + c3.toNat
         4 ≤ n.toNat ∨ 4 ≤ m.toNat ∨ 2 ≤ i.toNat ∨ 2 ≤ a.toNat ∨ cpr < 4 ∨ 16777216 < cpr ∨ 2 ≤ pol.toNat ∨
           3 ≤ rep.toNat → bad .axisConfig) ∧
       (∀ n t0 t1 t2 t3 v0 v1 v2 v3, r.op = 0x12#8 → r.payload = [n, t0, t1, t2, t3, v0, v1, v2, v3] →
         4 ≤ n.toNat ∨ outside n (v0 ++ v1 ++ v2 ++ v3).toInt → bad .axisSetPosition) ∧
       (∀ n src k q p0 p1 p2 p3, r.op = 0x13#8 → r.payload = [n, src, k, q, p0, p1, p2, p3] →
         4 ≤ n.toNat ∨ 3 ≤ src.toNat ∨ (src.toNat ≠ 0 ∧ 6 ≤ k.toNat) ∨ 3 ≤ q.toNat → bad .home) ∧
       (∀ n c es, r.op = 0x20#8 → r.payload = n :: c :: es → es.length = 14 * c.toNat →
         4 ≤ n.toNat ∨ c.toNat = 0 ∨ 16 < c.toNat ∨
           (∃ front back t0 t1 p0 p1 p2 p3 flags action w0 w1 c0 c1 d0 d1,
             es = front ++ [t0, t1, p0, p1, p2, p3, flags, action, w0, w1, c0, c1, d0, d1] ++ back ∧
             14 ∣ front.length ∧
             (num t0 t1 = 0 ∨ outside n (p0 ++ p1 ++ p2 ++ p3).toInt ∨ flags.toNat % 4 = 0 ∨
               6 ≤ action.toNat % 8 ∨ misfit (action.toNat % 8) (num w0 w1) (num c0 c1) (num d0 d1))) →
         bad .stageAdd) ∧
       (∀ n t0 t1, r.op = 0x21#8 → r.payload = [n, t0, t1] → 4 ≤ n.toNat ∨ num t0 t1 = 0 → bad .stageRemove) ∧
       (∀ n h0 h1, r.op = 0x24#8 → r.payload = [n, h0, h1] → 4 ≤ n.toNat ∨ num h0 h1 = 0 → bad .schedConfig) ∧
       (∀ n m p0 p1 p2 p3 run, r.op = 0x25#8 → r.payload = [n, m, p0, p1, p2, p3, run] →
         4 ≤ n.toNat ∨ m.toNat = 0 ∨ 3 < m.toNat ∨ 2 ≤ run.toNat ∨
           (m.toNat = 3 ∧ outside n (p0 ++ p1 ++ p2 ++ p3).toInt) → bad .commit) ∧
       (∀ n list t0 t1, r.op = 0x2A#8 → r.payload = [n, list, t0, t1] →
         4 ≤ n.toNat ∨ 2 ≤ list.toNat ∨ num t0 t1 = 0 → bad .entryRead) ∧
       (∀ l idle safeLevel policy report, r.op = 0x30#8 → r.payload = [l, idle, safeLevel, policy, report] →
         8 ≤ l.toNat ∨ 2 ≤ idle.toNat ∨ 2 ≤ safeLevel.toNat ∨ 3 ≤ policy.toNat ∨ 2 ≤ report.toNat →
         bad .outputConfig) ∧
       (∀ l kind w0 w1 c0 c1 p0 p1, r.op = 0x31#8 → r.payload = [l, kind, w0, w1, c0, c1, p0, p1] →
         8 ≤ l.toNat ∨ kind.toNat = 0 ∨ 5 < kind.toNat ∨
           misfit kind.toNat (num w0 w1) (num c0 c1) (num p0 p1) → bad .outputAction) ∧
       (∀ k selection f h0 h1, r.op = 0x40#8 → r.payload = [k, selection, f, h0, h1] →
         6 ≤ k.toNat ∨ 4 ≤ selection.toNat → bad .triggerConfig) ∧
       (∀ i enable s0 s1 s2 n0 n1 a0 a1 a2 w0 w1 c0 c1 p0 p1, r.op = 0x42#8 →
         r.payload = [i, enable, s0, s1, s2, n0, n1, a0, a1, a2, w0, w1, c0, c1, p0, p1] →
         16 ≤ i.toNat ∨ 2 ≤ enable.toNat ∨ num n0 n1 = 0 ∨ 256 < num n0 n1 ∨
           (s0.toNat = 0 ∨ 5 < s0.toNat ∨ (s0.toNat = 1 ∧ (6 ≤ s1.toNat ∨ s2.toNat = 0 ∨ 3 < s2.toNat)) ∨
             (2 ≤ s0.toNat ∧ 4 ≤ s1.toNat) ∨ (s0.toNat = 3 ∧ (s2.toNat = 0 ∨ 3 < s2.toNat))) ∨
           (a0.toNat = 0 ∨ 5 < a0.toNat ∨ (a0.toNat = 1 ∧ (a1.toNat = 0 ∨ 15 < a1.toNat)) ∨
             (2 ≤ a0.toNat ∧ a0.toNat ≤ 4 ∧ 4 ≤ a1.toNat) ∨
             (a0.toNat = 5 ∧ (8 ≤ a1.toNat ∨ a2.toNat = 0 ∨ 5 < a2.toNat ∨
               misfit a2.toNat (num w0 w1) (num c0 c1) (num p0 p1)))) → bad .routeSet) ∧
       (∀ mode w t0 t1, r.op = 0x53#8 → r.payload = [mode, w, t0, t1] →
         2 ≤ mode.toNat ∨ w.toNat = 0 ∨ 16 < w.toNat ∨ num t0 t1 < 10 ∨ 10000 < num t0 t1 →
         bad .deliveryConfig) ∧
       (∀ b0 b1 b2 b3 b4 b5 edge, r.op = 0x62#8 → r.payload = [b0, b1, b2, b3, b4, b5, edge] →
         edge.toNat = 0 ∨ 2 < edge.toNat → bad .syncArm)))

/-- A retry whose tag is in the cache is not carried out (R185): with its fingerprint the cached reply is queued with
RETRY set, its entry becomes the most recent and the retry is counted; with another, RETRY_MISMATCH is replied. -/
def Obligations.RetryIsServedFromTheCache : Prop :=
  ∀ (s : State) (c : Instr) (op : RequestOp) (r : Request) (rest : List Request) (front back : List CacheEntry)
    (e : CacheEntry),
    s.phase = .running → s.link.hold = .none → s.link.waiting = r :: rest → requestOf c = some op →
    r.op = op.code → r.retry = true → s.link.cache = front ++ e :: back → e.tag = r.tag →
    (s.link.cache.map CacheEntry.tag).Nodup → s.link.cache.length ≤ 8 →
    (e.fingerprint = r.fingerprint →
      exec c s = .next { s with link := { s.link with
        waiting := rest, replies := s.link.replies ++ [⟨{ e.reply with resent := true }, .nothing⟩]
        cache := e :: (front ++ back)
        stats := { s.link.stats with retriesServed := min (s.link.stats.retriesServed + 1) 65535 } } }) ∧
    (e.fingerprint ≠ r.fingerprint →
      exec c s = .next { s with link := { s.link with
        waiting := rest, replies := s.link.replies ++ [⟨replyTo r .retryMismatch [], .nothing⟩] } })

/-! ### What no step breaks -/

/-- The free slots and the entries of all eight lists number 512 after every step (R27, R28). -/
def Obligations.PoolCountIsKept : Prop := ∀ s t : State, PoolInv s → step s = .next t → PoolInv t

/-- Every list stays sorted by position with distinct tags, and staging entries stay disarmed and unfired (R30, R31).
-/
def Obligations.ListsStayInOrder : Prop := ∀ s t : State, ListsInv s → step s = .next t → ListsInv t

/-- After every step a RUNNING schedule's axis is REFERENCED and its active list is non-empty (R55). -/
def Obligations.RunningScheduleHasAReferencedAxisAndEntries : Prop :=
  ∀ s t : State, RunningInv s → step s = .next t → RunningInv t

/-- After every step a pending action stands only on an occupied QUEUE line, and none runs or pends while SAFE (R76).
-/
def Obligations.OccupationOfTheLinesIsKept : Prop := ∀ s t : State, OutputInv s → step s = .next t → OutputInv t

/-- After every step the queue holds at most 256 records, numbered consecutively modulo 2^32 up to one less than the
next sequence number, the occupancy equals the next number less the oldest (R137), and losses are pending only while
the queue is full (R142). -/
def Obligations.RecordNumbersStayConsecutive : Prop :=
  ∀ s t : State, QueueInv s.queue → step s = .next t →
    QueueInv t.queue ∧ (t.queue.next - t.queue.oldest).toNat = t.queue.records.length

/-- After every step oldest, send point, high mark and next stand in this order within W, and nothing is outstanding
while DETACHED (R148, R152, R154). -/
def Obligations.DeliveryPointersStayInOrder : Prop :=
  ∀ s t : State, QueueInv s.queue → DeliveryInv s → step s = .next t → DeliveryInv t

/-- After every step the reply cache holds at most 8 entries with distinct tags and is empty while DETACHED (R182).
After every step the intake holds at most 4 requests (R173). -/
def Obligations.CacheAndIntakeStayBounded : Prop :=
  (∀ s t : State, CacheInv s → step s = .next t → CacheInv t) ∧
  (∀ s t : State, IntakeInv s → step s = .next t → IntakeInv t)

/-- After every step each position lies in its range (Table 1-1, R7, R8). After every step the changes of every line
are listed earliest first, no two at one moment: the form in which the model holds the lines (notes/assumptions/8.md).
-/
def Obligations.PositionsStayInRangeAndLineChangesInOrder : Prop :=
  (∀ s t : State, PositionsInv s → step s = .next t → PositionsInv t) ∧
  (∀ s t : State, WiresInv s → step s = .next t → WiresInv t)

/-- A staging list does not change while its schedule has a commit pending (R38): a step that finds a commit pending
either leaves none pending, or leaves it and the staging list as they were. -/
def Obligations.StagingIsFrozenWhileACommitPends : Prop :=
  ∀ (s t : State) (n : AxisId), (s.sched n).commit ≠ none → step s = .next t →
    (t.sched n).commit = none ∨ ((t.sched n).commit = (s.sched n).commit ∧ (t.sched n).staging = (s.sched n).staging)

/-- An admitted record is never changed, moved or pushed out (R127, R138, R140, R141): each command but a reset leaves
the queue as the records it held, less some of the oldest, followed by new ones. The new ones are numbered from the
next sequence number on, and the queue's next number follows them; only the last byte of a frame takes any away, and
then the one new record there can be is the GAP record of the losses pending (R142). The two resets empty the queue.
-/
def Obligations.RecordsLeaveOnlyFromTheOldestEnd : Prop :=
  ∀ (s t : State) (c : Instr), exec c s = .next t → QueueInv s.queue →
    (c ≠ .coldReset → (∀ f, c = .txFrameComplete → s.link.transmitter ≠ .sending f .warmReset) →
      ∃ k new, k ≤ s.queue.records.length ∧ t.queue.records = s.queue.records.drop k ++ new ∧
        (∀ (i : Nat) (h : i < new.length), new[i].seq = s.queue.next + BitVec.ofNat 32 i) ∧
        t.queue.next = s.queue.next + BitVec.ofNat 32 new.length ∧
        (k ≠ 0 → (∃ b, c = .frameReceived b ∨ c = .characterReceived b) ∧
          (new = [] ∨ ∃ time, new = [⟨s.queue.next, ⟨.gap s.queue.pendingLoss, time, []⟩⟩] ∧ s.queue.pendingLoss ≠ 0))) ∧
    (c = .coldReset → t.queue.records = []) ∧
    (∀ f, c = .txFrameComplete → s.phase = .running → s.link.transmitter = .sending f .warmReset →
      t.queue.records = [])

/-- Replies leave in the order the requests were taken (R173, R176): each step leaves the reply queue as it was, with
one reply at its tail more, or without its oldest; only a reset empties it. -/
def Obligations.RepliesLeaveInAcceptanceOrder : Prop :=
  ∀ (s t : State) (c : Instr), exec c s = .next t → c ≠ .coldReset → c ≠ .txFrameComplete →
    t.link.replies = s.link.replies ∨ (∃ q, t.link.replies = s.link.replies ++ [q]) ∨
      (c = .txTakeFrame ∧ ∃ q, s.link.replies = q :: t.link.replies)

/-- No axis changes the state of another (chapter 1, R9): the events of one axis leave every other axis and its lines
as they are. -/
def Obligations.AxesAreIndependent : Prop :=
  ∀ (s t : State) (n m : AxisId) (lines : DecoderLines) (takes : List Nat) (c : Instr), m ≠ n →
    c ∈ [Instr.countEvent n takes, .quadratureError n, .indexArrival n, .decoderStateChange n lines] →
    exec c s = .next t → t.axis m = s.axis m ∧ t.axisWires m = s.axisWires m

/-- An event that the state does not admit changes nothing: the model's choice of notes/assumptions/3.md, stated for
the events of lines that make no change or one of another kind, for the ends of phases and timers that do not run and
for the events of a part in reset. -/
def Obligations.EventsNotAdmittedChangeNothing : Prop :=
  ∀ (s : State) (l : LineId) (k : TriggerId) (n : AxisId) (takes : List Nat),
    (s.nextPair n = none → exec (.countEvent n takes) s = .next s ∧ exec (.quadratureError n) s = .next s ∧
      exec (.decoderStateChange n .pair) s = .next s) ∧
    (∀ c, s.nextPair n = some c →
      rawCount (s.axis n).config.countMode (s.axis n).decoder.a (s.axis n).decoder.b c.a c.b = none →
      exec (.countEvent n takes) s = .next s) ∧
    (∀ c, s.nextPair n = some c → c.a = (s.axis n).decoder.a ∨ c.b = (s.axis n).decoder.b →
      exec (.quadratureError n) s = .next s) ∧
    (s.nextIndex n = none ∨ (s.axis n).decoder.index = .high → exec (.indexArrival n) s = .next s) ∧
    ((s.line l).running = none → exec (.leadEnd l) s = .next s ∧ exec (.pulseEnd l) s = .next s ∧
      exec (.gapEnd l) s = .next s) ∧
    ((s.trigger k).holdoffEnd = none → exec (.holdoffExpiry k) s = .next s) ∧
    (s.delivery.ackTimer = none → exec .ackTimeout s = .next s) ∧
    (s.link.keepalive = none → exec .keepaliveExpiry s = .next s) ∧
    (s.link.waiting = [] → ∀ c op, requestOf c = some op → exec c s = .next s) ∧
    (s.phase ≠ .running → exec (.quadratureError n) s = .next s ∧ exec .syncEdge s = .next s ∧
      exec .txTakeFrame s = .next s ∧ ∀ c op, requestOf c = some op → exec c s = .next s)
end

