-- ==== Sys2Proof/Laws/State.lean ====
section
/-! SUPPORT. The fields of a state after each named update: one lemma per field per update, so that no proof unfolds a
record update. -/

namespace Sys2Proof.Machine

variable (s : State)

/-! ### setAxis -/

@[simp] theorem State.setAxis_phase (n : AxisId) (x : Axis) : (s.setAxis n x).phase = s.phase := rfl
@[simp] theorem State.setAxis_now (n : AxisId) (x : Axis) : (s.setAxis n x).now = s.now := rfl
@[simp] theorem State.setAxis_wires (n : AxisId) (x : Axis) : (s.setAxis n x).wires = s.wires := rfl
@[simp] theorem State.setAxis_axes (n : AxisId) (x : Axis) : (s.setAxis n x).axes = s.axes.set n x := rfl
@[simp] theorem State.setAxis_scheds (n : AxisId) (x : Axis) : (s.setAxis n x).scheds = s.scheds := rfl
@[simp] theorem State.setAxis_free (n : AxisId) (x : Axis) : (s.setAxis n x).free = s.free := rfl
@[simp] theorem State.setAxis_lines (n : AxisId) (x : Axis) : (s.setAxis n x).lines = s.lines := rfl
@[simp] theorem State.setAxis_safe (n : AxisId) (x : Axis) : (s.setAxis n x).safe = s.safe := rfl
@[simp] theorem State.setAxis_triggers (n : AxisId) (x : Axis) : (s.setAxis n x).triggers = s.triggers := rfl
@[simp] theorem State.setAxis_routes (n : AxisId) (x : Axis) : (s.setAxis n x).routes = s.routes := rfl
@[simp] theorem State.setAxis_timebase (n : AxisId) (x : Axis) : (s.setAxis n x).timebase = s.timebase := rfl
@[simp] theorem State.setAxis_queue (n : AxisId) (x : Axis) : (s.setAxis n x).queue = s.queue := rfl
@[simp] theorem State.setAxis_delivery (n : AxisId) (x : Axis) : (s.setAxis n x).delivery = s.delivery := rfl
@[simp] theorem State.setAxis_link (n : AxisId) (x : Axis) : (s.setAxis n x).link = s.link := rfl
@[simp] theorem State.setAxis_pending (n : AxisId) (x : Axis) : (s.setAxis n x).pending = s.pending := rfl
@[simp] theorem State.setAxis_axis_same (n : AxisId) (x : Axis) : (s.setAxis n x).axis n = x := by
  simp [State.setAxis, State.axis]
theorem State.setAxis_axis_ne (n : AxisId) (x : Axis) {m : AxisId} (h : m ≠ n) : (s.setAxis n x).axis m = s.axis m := by
  have h' : n.val ≠ m.val := fun e => h (Fin.ext e.symm)
  simp [State.setAxis, State.axis, Vector.getElem_set_ne _ _ h']
@[simp] theorem State.setAxis_setAxis (n : AxisId) (x : Axis) (y : Axis) : (s.setAxis n x).setAxis n y = s.setAxis n y := by
  simp [State.setAxis]
@[simp] theorem State.setAxis_self (n : AxisId) : s.setAxis n (s.axis n) = s := by
  simp [State.setAxis, State.axis]
@[simp] theorem State.setAxis_sched (n : AxisId) (x : Axis) (i : AxisId) : (s.setAxis n x).sched i = s.sched i := rfl
@[simp] theorem State.setAxis_line (n : AxisId) (x : Axis) (i : LineId) : (s.setAxis n x).line i = s.line i := rfl
@[simp] theorem State.setAxis_trigger (n : AxisId) (x : Axis) (i : TriggerId) : (s.setAxis n x).trigger i = s.trigger i := rfl
@[simp] theorem State.setAxis_route (n : AxisId) (x : Axis) (i : RouteId) : (s.setAxis n x).route i = s.route i := rfl

/-! ### setSched -/

@[simp] theorem State.setSched_phase (n : AxisId) (x : Schedule) : (s.setSched n x).phase = s.phase := rfl
@[simp] theorem State.setSched_now (n : AxisId) (x : Schedule) : (s.setSched n x).now = s.now := rfl
@[simp] theorem State.setSched_wires (n : AxisId) (x : Schedule) : (s.setSched n x).wires = s.wires := rfl
@[simp] theorem State.setSched_axes (n : AxisId) (x : Schedule) : (s.setSched n x).axes = s.axes := rfl
@[simp] theorem State.setSched_scheds (n : AxisId) (x : Schedule) : (s.setSched n x).scheds = s.scheds.set n x := rfl
@[simp] theorem State.setSched_free (n : AxisId) (x : Schedule) : (s.setSched n x).free = s.free := rfl
@[simp] theorem State.setSched_lines (n : AxisId) (x : Schedule) : (s.setSched n x).lines = s.lines := rfl
@[simp] theorem State.setSched_safe (n : AxisId) (x : Schedule) : (s.setSched n x).safe = s.safe := rfl
@[simp] theorem State.setSched_triggers (n : AxisId) (x : Schedule) : (s.setSched n x).triggers = s.triggers := rfl
@[simp] theorem State.setSched_routes (n : AxisId) (x : Schedule) : (s.setSched n x).routes = s.routes := rfl
@[simp] theorem State.setSched_timebase (n : AxisId) (x : Schedule) : (s.setSched n x).timebase = s.timebase := rfl
@[simp] theorem State.setSched_queue (n : AxisId) (x : Schedule) : (s.setSched n x).queue = s.queue := rfl
@[simp] theorem State.setSched_delivery (n : AxisId) (x : Schedule) : (s.setSched n x).delivery = s.delivery := rfl
@[simp] theorem State.setSched_link (n : AxisId) (x : Schedule) : (s.setSched n x).link = s.link := rfl
@[simp] theorem State.setSched_pending (n : AxisId) (x : Schedule) : (s.setSched n x).pending = s.pending := rfl
@[simp] theorem State.setSched_axis (n : AxisId) (x : Schedule) (i : AxisId) : (s.setSched n x).axis i = s.axis i := rfl
@[simp] theorem State.setSched_sched_same (n : AxisId) (x : Schedule) : (s.setSched n x).sched n = x := by
  simp [State.setSched, State.sched]
theorem State.setSched_sched_ne (n : AxisId) (x : Schedule) {m : AxisId} (h : m ≠ n) : (s.setSched n x).sched m = s.sched m := by
  have h' : n.val ≠ m.val := fun e => h (Fin.ext e.symm)
  simp [State.setSched, State.sched, Vector.getElem_set_ne _ _ h']
@[simp] theorem State.setSched_setSched (n : AxisId) (x : Schedule) (y : Schedule) : (s.setSched n x).setSched n y = s.setSched n y := by
  simp [State.setSched]
@[simp] theorem State.setSched_self (n : AxisId) : s.setSched n (s.sched n) = s := by
  simp [State.setSched, State.sched]
@[simp] theorem State.setSched_line (n : AxisId) (x : Schedule) (i : LineId) : (s.setSched n x).line i = s.line i := rfl
@[simp] theorem State.setSched_trigger (n : AxisId) (x : Schedule) (i : TriggerId) : (s.setSched n x).trigger i = s.trigger i := rfl
@[simp] theorem State.setSched_route (n : AxisId) (x : Schedule) (i : RouteId) : (s.setSched n x).route i = s.route i := rfl

/-! ### setLine -/

@[simp] theorem State.setLine_phase (n : LineId) (x : Line) : (s.setLine n x).phase = s.phase := rfl
@[simp] theorem State.setLine_now (n : LineId) (x : Line) : (s.setLine n x).now = s.now := rfl
@[simp] theorem State.setLine_wires (n : LineId) (x : Line) : (s.setLine n x).wires = s.wires := rfl
@[simp] theorem State.setLine_axes (n : LineId) (x : Line) : (s.setLine n x).axes = s.axes := rfl
@[simp] theorem State.setLine_scheds (n : LineId) (x : Line) : (s.setLine n x).scheds = s.scheds := rfl
@[simp] theorem State.setLine_free (n : LineId) (x : Line) : (s.setLine n x).free = s.free := rfl
@[simp] theorem State.setLine_lines (n : LineId) (x : Line) : (s.setLine n x).lines = s.lines.set n x := rfl
@[simp] theorem State.setLine_safe (n : LineId) (x : Line) : (s.setLine n x).safe = s.safe := rfl
@[simp] theorem State.setLine_triggers (n : LineId) (x : Line) : (s.setLine n x).triggers = s.triggers := rfl
@[simp] theorem State.setLine_routes (n : LineId) (x : Line) : (s.setLine n x).routes = s.routes := rfl
@[simp] theorem State.setLine_timebase (n : LineId) (x : Line) : (s.setLine n x).timebase = s.timebase := rfl
@[simp] theorem State.setLine_queue (n : LineId) (x : Line) : (s.setLine n x).queue = s.queue := rfl
@[simp] theorem State.setLine_delivery (n : LineId) (x : Line) : (s.setLine n x).delivery = s.delivery := rfl
@[simp] theorem State.setLine_link (n : LineId) (x : Line) : (s.setLine n x).link = s.link := rfl
@[simp] theorem State.setLine_pending (n : LineId) (x : Line) : (s.setLine n x).pending = s.pending := rfl
@[simp] theorem State.setLine_axis (n : LineId) (x : Line) (i : AxisId) : (s.setLine n x).axis i = s.axis i := rfl
@[simp] theorem State.setLine_sched (n : LineId) (x : Line) (i : AxisId) : (s.setLine n x).sched i = s.sched i := rfl
@[simp] theorem State.setLine_line_same (n : LineId) (x : Line) : (s.setLine n x).line n = x := by
  simp [State.setLine, State.line]
theorem State.setLine_line_ne (n : LineId) (x : Line) {m : LineId} (h : m ≠ n) : (s.setLine n x).line m = s.line m := by
  have h' : n.val ≠ m.val := fun e => h (Fin.ext e.symm)
  simp [State.setLine, State.line, Vector.getElem_set_ne _ _ h']
@[simp] theorem State.setLine_setLine (n : LineId) (x : Line) (y : Line) : (s.setLine n x).setLine n y = s.setLine n y := by
  simp [State.setLine]
@[simp] theorem State.setLine_self (n : LineId) : s.setLine n (s.line n) = s := by
  simp [State.setLine, State.line]
@[simp] theorem State.setLine_trigger (n : LineId) (x : Line) (i : TriggerId) : (s.setLine n x).trigger i = s.trigger i := rfl
@[simp] theorem State.setLine_route (n : LineId) (x : Line) (i : RouteId) : (s.setLine n x).route i = s.route i := rfl

/-! ### setTrigger -/

@[simp] theorem State.setTrigger_phase (n : TriggerId) (x : Trigger) : (s.setTrigger n x).phase = s.phase := rfl
@[simp] theorem State.setTrigger_now (n : TriggerId) (x : Trigger) : (s.setTrigger n x).now = s.now := rfl
@[simp] theorem State.setTrigger_wires (n : TriggerId) (x : Trigger) : (s.setTrigger n x).wires = s.wires := rfl
@[simp] theorem State.setTrigger_axes (n : TriggerId) (x : Trigger) : (s.setTrigger n x).axes = s.axes := rfl
@[simp] theorem State.setTrigger_scheds (n : TriggerId) (x : Trigger) : (s.setTrigger n x).scheds = s.scheds := rfl
@[simp] theorem State.setTrigger_free (n : TriggerId) (x : Trigger) : (s.setTrigger n x).free = s.free := rfl
@[simp] theorem State.setTrigger_lines (n : TriggerId) (x : Trigger) : (s.setTrigger n x).lines = s.lines := rfl
@[simp] theorem State.setTrigger_safe (n : TriggerId) (x : Trigger) : (s.setTrigger n x).safe = s.safe := rfl
@[simp] theorem State.setTrigger_triggers (n : TriggerId) (x : Trigger) : (s.setTrigger n x).triggers = s.triggers.set n x := rfl
@[simp] theorem State.setTrigger_routes (n : TriggerId) (x : Trigger) : (s.setTrigger n x).routes = s.routes := rfl
@[simp] theorem State.setTrigger_timebase (n : TriggerId) (x : Trigger) : (s.setTrigger n x).timebase = s.timebase := rfl
@[simp] theorem State.setTrigger_queue (n : TriggerId) (x : Trigger) : (s.setTrigger n x).queue = s.queue := rfl
@[simp] theorem State.setTrigger_delivery (n : TriggerId) (x : Trigger) : (s.setTrigger n x).delivery = s.delivery := rfl
@[simp] theorem State.setTrigger_link (n : TriggerId) (x : Trigger) : (s.setTrigger n x).link = s.link := rfl
@[simp] theorem State.setTrigger_pending (n : TriggerId) (x : Trigger) : (s.setTrigger n x).pending = s.pending := rfl
@[simp] theorem State.setTrigger_axis (n : TriggerId) (x : Trigger) (i : AxisId) : (s.setTrigger n x).axis i = s.axis i := rfl
@[simp] theorem State.setTrigger_sched (n : TriggerId) (x : Trigger) (i : AxisId) : (s.setTrigger n x).sched i = s.sched i := rfl
@[simp] theorem State.setTrigger_line (n : TriggerId) (x : Trigger) (i : LineId) : (s.setTrigger n x).line i = s.line i := rfl
@[simp] theorem State.setTrigger_trigger_same (n : TriggerId) (x : Trigger) : (s.setTrigger n x).trigger n = x := by
  simp [State.setTrigger, State.trigger]
theorem State.setTrigger_trigger_ne (n : TriggerId) (x : Trigger) {m : TriggerId} (h : m ≠ n) : (s.setTrigger n x).trigger m = s.trigger m := by
  have h' : n.val ≠ m.val := fun e => h (Fin.ext e.symm)
  simp [State.setTrigger, State.trigger, Vector.getElem_set_ne _ _ h']
@[simp] theorem State.setTrigger_setTrigger (n : TriggerId) (x : Trigger) (y : Trigger) : (s.setTrigger n x).setTrigger n y = s.setTrigger n y := by
  simp [State.setTrigger]
@[simp] theorem State.setTrigger_self (n : TriggerId) : s.setTrigger n (s.trigger n) = s := by
  simp [State.setTrigger, State.trigger]
@[simp] theorem State.setTrigger_route (n : TriggerId) (x : Trigger) (i : RouteId) : (s.setTrigger n x).route i = s.route i := rfl

/-! ### setRoute -/

@[simp] theorem State.setRoute_phase (n : RouteId) (x : Route) : (s.setRoute n x).phase = s.phase := rfl
@[simp] theorem State.setRoute_now (n : RouteId) (x : Route) : (s.setRoute n x).now = s.now := rfl
@[simp] theorem State.setRoute_wires (n : RouteId) (x : Route) : (s.setRoute n x).wires = s.wires := rfl
@[simp] theorem State.setRoute_axes (n : RouteId) (x : Route) : (s.setRoute n x).axes = s.axes := rfl
@[simp] theorem State.setRoute_scheds (n : RouteId) (x : Route) : (s.setRoute n x).scheds = s.scheds := rfl
@[simp] theorem State.setRoute_free (n : RouteId) (x : Route) : (s.setRoute n x).free = s.free := rfl
@[simp] theorem State.setRoute_lines (n : RouteId) (x : Route) : (s.setRoute n x).lines = s.lines := rfl
@[simp] theorem State.setRoute_safe (n : RouteId) (x : Route) : (s.setRoute n x).safe = s.safe := rfl
@[simp] theorem State.setRoute_triggers (n : RouteId) (x : Route) : (s.setRoute n x).triggers = s.triggers := rfl
@[simp] theorem State.setRoute_routes (n : RouteId) (x : Route) : (s.setRoute n x).routes = s.routes.set n x := rfl
@[simp] theorem State.setRoute_timebase (n : RouteId) (x : Route) : (s.setRoute n x).timebase = s.timebase := rfl
@[simp] theorem State.setRoute_queue (n : RouteId) (x : Route) : (s.setRoute n x).queue = s.queue := rfl
@[simp] theorem State.setRoute_delivery (n : RouteId) (x : Route) : (s.setRoute n x).delivery = s.delivery := rfl
@[simp] theorem State.setRoute_link (n : RouteId) (x : Route) : (s.setRoute n x).link = s.link := rfl
@[simp] theorem State.setRoute_pending (n : RouteId) (x : Route) : (s.setRoute n x).pending = s.pending := rfl
@[simp] theorem State.setRoute_axis (n : RouteId) (x : Route) (i : AxisId) : (s.setRoute n x).axis i = s.axis i := rfl
@[simp] theorem State.setRoute_sched (n : RouteId) (x : Route) (i : AxisId) : (s.setRoute n x).sched i = s.sched i := rfl
@[simp] theorem State.setRoute_line (n : RouteId) (x : Route) (i : LineId) : (s.setRoute n x).line i = s.line i := rfl
@[simp] theorem State.setRoute_trigger (n : RouteId) (x : Route) (i : TriggerId) : (s.setRoute n x).trigger i = s.trigger i := rfl
@[simp] theorem State.setRoute_route_same (n : RouteId) (x : Route) : (s.setRoute n x).route n = x := by
  simp [State.setRoute, State.route]
theorem State.setRoute_route_ne (n : RouteId) (x : Route) {m : RouteId} (h : m ≠ n) : (s.setRoute n x).route m = s.route m := by
  have h' : n.val ≠ m.val := fun e => h (Fin.ext e.symm)
  simp [State.setRoute, State.route, Vector.getElem_set_ne _ _ h']
@[simp] theorem State.setRoute_setRoute (n : RouteId) (x : Route) (y : Route) : (s.setRoute n x).setRoute n y = s.setRoute n y := by
  simp [State.setRoute]
@[simp] theorem State.setRoute_self (n : RouteId) : s.setRoute n (s.route n) = s := by
  simp [State.setRoute, State.route]

/-! ### setFree -/

@[simp] theorem State.setFree_phase (x : Nat) : (s.setFree x).phase = s.phase := rfl
@[simp] theorem State.setFree_now (x : Nat) : (s.setFree x).now = s.now := rfl
@[simp] theorem State.setFree_wires (x : Nat) : (s.setFree x).wires = s.wires := rfl
@[simp] theorem State.setFree_axes (x : Nat) : (s.setFree x).axes = s.axes := rfl
@[simp] theorem State.setFree_scheds (x : Nat) : (s.setFree x).scheds = s.scheds := rfl
@[simp] theorem State.setFree_free (x : Nat) : (s.setFree x).free = x := rfl
@[simp] theorem State.setFree_lines (x : Nat) : (s.setFree x).lines = s.lines := rfl
@[simp] theorem State.setFree_safe (x : Nat) : (s.setFree x).safe = s.safe := rfl
@[simp] theorem State.setFree_triggers (x : Nat) : (s.setFree x).triggers = s.triggers := rfl
@[simp] theorem State.setFree_routes (x : Nat) : (s.setFree x).routes = s.routes := rfl
@[simp] theorem State.setFree_timebase (x : Nat) : (s.setFree x).timebase = s.timebase := rfl
@[simp] theorem State.setFree_queue (x : Nat) : (s.setFree x).queue = s.queue := rfl
@[simp] theorem State.setFree_delivery (x : Nat) : (s.setFree x).delivery = s.delivery := rfl
@[simp] theorem State.setFree_link (x : Nat) : (s.setFree x).link = s.link := rfl
@[simp] theorem State.setFree_pending (x : Nat) : (s.setFree x).pending = s.pending := rfl
@[simp] theorem State.setFree_axis (x : Nat) (i : AxisId) : (s.setFree x).axis i = s.axis i := rfl
@[simp] theorem State.setFree_sched (x : Nat) (i : AxisId) : (s.setFree x).sched i = s.sched i := rfl
@[simp] theorem State.setFree_line (x : Nat) (i : LineId) : (s.setFree x).line i = s.line i := rfl
@[simp] theorem State.setFree_trigger (x : Nat) (i : TriggerId) : (s.setFree x).trigger i = s.trigger i := rfl
@[simp] theorem State.setFree_route (x : Nat) (i : RouteId) : (s.setFree x).route i = s.route i := rfl

/-! ### setTimebase -/

@[simp] theorem State.setTimebase_phase (x : Timebase) : (s.setTimebase x).phase = s.phase := rfl
@[simp] theorem State.setTimebase_now (x : Timebase) : (s.setTimebase x).now = s.now := rfl
@[simp] theorem State.setTimebase_wires (x : Timebase) : (s.setTimebase x).wires = s.wires := rfl
@[simp] theorem State.setTimebase_axes (x : Timebase) : (s.setTimebase x).axes = s.axes := rfl
@[simp] theorem State.setTimebase_scheds (x : Timebase) : (s.setTimebase x).scheds = s.scheds := rfl
@[simp] theorem State.setTimebase_free (x : Timebase) : (s.setTimebase x).free = s.free := rfl
@[simp] theorem State.setTimebase_lines (x : Timebase) : (s.setTimebase x).lines = s.lines := rfl
@[simp] theorem State.setTimebase_safe (x : Timebase) : (s.setTimebase x).safe = s.safe := rfl
@[simp] theorem State.setTimebase_triggers (x : Timebase) : (s.setTimebase x).triggers = s.triggers := rfl
@[simp] theorem State.setTimebase_routes (x : Timebase) : (s.setTimebase x).routes = s.routes := rfl
@[simp] theorem State.setTimebase_timebase (x : Timebase) : (s.setTimebase x).timebase = x := rfl
@[simp] theorem State.setTimebase_queue (x : Timebase) : (s.setTimebase x).queue = s.queue := rfl
@[simp] theorem State.setTimebase_delivery (x : Timebase) : (s.setTimebase x).delivery = s.delivery := rfl
@[simp] theorem State.setTimebase_link (x : Timebase) : (s.setTimebase x).link = s.link := rfl
@[simp] theorem State.setTimebase_pending (x : Timebase) : (s.setTimebase x).pending = s.pending := rfl
@[simp] theorem State.setTimebase_axis (x : Timebase) (i : AxisId) : (s.setTimebase x).axis i = s.axis i := rfl
@[simp] theorem State.setTimebase_sched (x : Timebase) (i : AxisId) : (s.setTimebase x).sched i = s.sched i := rfl
@[simp] theorem State.setTimebase_line (x : Timebase) (i : LineId) : (s.setTimebase x).line i = s.line i := rfl
@[simp] theorem State.setTimebase_trigger (x : Timebase) (i : TriggerId) : (s.setTimebase x).trigger i = s.trigger i := rfl
@[simp] theorem State.setTimebase_route (x : Timebase) (i : RouteId) : (s.setTimebase x).route i = s.route i := rfl

/-! ### setQueue -/

@[simp] theorem State.setQueue_phase (x : RecordQueue) : (s.setQueue x).phase = s.phase := rfl
@[simp] theorem State.setQueue_now (x : RecordQueue) : (s.setQueue x).now = s.now := rfl
@[simp] theorem State.setQueue_wires (x : RecordQueue) : (s.setQueue x).wires = s.wires := rfl
@[simp] theorem State.setQueue_axes (x : RecordQueue) : (s.setQueue x).axes = s.axes := rfl
@[simp] theorem State.setQueue_scheds (x : RecordQueue) : (s.setQueue x).scheds = s.scheds := rfl
@[simp] theorem State.setQueue_free (x : RecordQueue) : (s.setQueue x).free = s.free := rfl
@[simp] theorem State.setQueue_lines (x : RecordQueue) : (s.setQueue x).lines = s.lines := rfl
@[simp] theorem State.setQueue_safe (x : RecordQueue) : (s.setQueue x).safe = s.safe := rfl
@[simp] theorem State.setQueue_triggers (x : RecordQueue) : (s.setQueue x).triggers = s.triggers := rfl
@[simp] theorem State.setQueue_routes (x : RecordQueue) : (s.setQueue x).routes = s.routes := rfl
@[simp] theorem State.setQueue_timebase (x : RecordQueue) : (s.setQueue x).timebase = s.timebase := rfl
@[simp] theorem State.setQueue_queue (x : RecordQueue) : (s.setQueue x).queue = x := rfl
@[simp] theorem State.setQueue_delivery (x : RecordQueue) : (s.setQueue x).delivery = s.delivery := rfl
@[simp] theorem State.setQueue_link (x : RecordQueue) : (s.setQueue x).link = s.link := rfl
@[simp] theorem State.setQueue_pending (x : RecordQueue) : (s.setQueue x).pending = s.pending := rfl
@[simp] theorem State.setQueue_axis (x : RecordQueue) (i : AxisId) : (s.setQueue x).axis i = s.axis i := rfl
@[simp] theorem State.setQueue_sched (x : RecordQueue) (i : AxisId) : (s.setQueue x).sched i = s.sched i := rfl
@[simp] theorem State.setQueue_line (x : RecordQueue) (i : LineId) : (s.setQueue x).line i = s.line i := rfl
@[simp] theorem State.setQueue_trigger (x : RecordQueue) (i : TriggerId) : (s.setQueue x).trigger i = s.trigger i := rfl
@[simp] theorem State.setQueue_route (x : RecordQueue) (i : RouteId) : (s.setQueue x).route i = s.route i := rfl

/-! ### setDelivery -/

@[simp] theorem State.setDelivery_phase (x : Delivery) : (s.setDelivery x).phase = s.phase := rfl
@[simp] theorem State.setDelivery_now (x : Delivery) : (s.setDelivery x).now = s.now := rfl
@[simp] theorem State.setDelivery_wires (x : Delivery) : (s.setDelivery x).wires = s.wires := rfl
@[simp] theorem State.setDelivery_axes (x : Delivery) : (s.setDelivery x).axes = s.axes := rfl
@[simp] theorem State.setDelivery_scheds (x : Delivery) : (s.setDelivery x).scheds = s.scheds := rfl
@[simp] theorem State.setDelivery_free (x : Delivery) : (s.setDelivery x).free = s.free := rfl
@[simp] theorem State.setDelivery_lines (x : Delivery) : (s.setDelivery x).lines = s.lines := rfl
@[simp] theorem State.setDelivery_safe (x : Delivery) : (s.setDelivery x).safe = s.safe := rfl
@[simp] theorem State.setDelivery_triggers (x : Delivery) : (s.setDelivery x).triggers = s.triggers := rfl
@[simp] theorem State.setDelivery_routes (x : Delivery) : (s.setDelivery x).routes = s.routes := rfl
@[simp] theorem State.setDelivery_timebase (x : Delivery) : (s.setDelivery x).timebase = s.timebase := rfl
@[simp] theorem State.setDelivery_queue (x : Delivery) : (s.setDelivery x).queue = s.queue := rfl
@[simp] theorem State.setDelivery_delivery (x : Delivery) : (s.setDelivery x).delivery = x := rfl
@[simp] theorem State.setDelivery_link (x : Delivery) : (s.setDelivery x).link = s.link := rfl
@[simp] theorem State.setDelivery_pending (x : Delivery) : (s.setDelivery x).pending = s.pending := rfl
@[simp] theorem State.setDelivery_axis (x : Delivery) (i : AxisId) : (s.setDelivery x).axis i = s.axis i := rfl
@[simp] theorem State.setDelivery_sched (x : Delivery) (i : AxisId) : (s.setDelivery x).sched i = s.sched i := rfl
@[simp] theorem State.setDelivery_line (x : Delivery) (i : LineId) : (s.setDelivery x).line i = s.line i := rfl
@[simp] theorem State.setDelivery_trigger (x : Delivery) (i : TriggerId) : (s.setDelivery x).trigger i = s.trigger i := rfl
@[simp] theorem State.setDelivery_route (x : Delivery) (i : RouteId) : (s.setDelivery x).route i = s.route i := rfl

/-! ### setLink -/

@[simp] theorem State.setLink_phase (x : Link) : (s.setLink x).phase = s.phase := rfl
@[simp] theorem State.setLink_now (x : Link) : (s.setLink x).now = s.now := rfl
@[simp] theorem State.setLink_wires (x : Link) : (s.setLink x).wires = s.wires := rfl
@[simp] theorem State.setLink_axes (x : Link) : (s.setLink x).axes = s.axes := rfl
@[simp] theorem State.setLink_scheds (x : Link) : (s.setLink x).scheds = s.scheds := rfl
@[simp] theorem State.setLink_free (x : Link) : (s.setLink x).free = s.free := rfl
@[simp] theorem State.setLink_lines (x : Link) : (s.setLink x).lines = s.lines := rfl
@[simp] theorem State.setLink_safe (x : Link) : (s.setLink x).safe = s.safe := rfl
@[simp] theorem State.setLink_triggers (x : Link) : (s.setLink x).triggers = s.triggers := rfl
@[simp] theorem State.setLink_routes (x : Link) : (s.setLink x).routes = s.routes := rfl
@[simp] theorem State.setLink_timebase (x : Link) : (s.setLink x).timebase = s.timebase := rfl
@[simp] theorem State.setLink_queue (x : Link) : (s.setLink x).queue = s.queue := rfl
@[simp] theorem State.setLink_delivery (x : Link) : (s.setLink x).delivery = s.delivery := rfl
@[simp] theorem State.setLink_link (x : Link) : (s.setLink x).link = x := rfl
@[simp] theorem State.setLink_pending (x : Link) : (s.setLink x).pending = s.pending := rfl
@[simp] theorem State.setLink_axis (x : Link) (i : AxisId) : (s.setLink x).axis i = s.axis i := rfl
@[simp] theorem State.setLink_sched (x : Link) (i : AxisId) : (s.setLink x).sched i = s.sched i := rfl
@[simp] theorem State.setLink_line (x : Link) (i : LineId) : (s.setLink x).line i = s.line i := rfl
@[simp] theorem State.setLink_trigger (x : Link) (i : TriggerId) : (s.setLink x).trigger i = s.trigger i := rfl
@[simp] theorem State.setLink_route (x : Link) (i : RouteId) : (s.setLink x).route i = s.route i := rfl

/-! ### The passing of time -/

@[simp] theorem State.advance_phase (d : Nat) : (s.advance d).phase = s.phase := rfl
@[simp] theorem State.advance_now (d : Nat) : (s.advance d).now = s.now + d := rfl
@[simp] theorem State.advance_wires (d : Nat) : (s.advance d).wires = s.wires := rfl
@[simp] theorem State.advance_axes (d : Nat) : (s.advance d).axes = s.axes := rfl
@[simp] theorem State.advance_scheds (d : Nat) : (s.advance d).scheds = s.scheds := rfl
@[simp] theorem State.advance_free (d : Nat) : (s.advance d).free = s.free := rfl
@[simp] theorem State.advance_lines (d : Nat) : (s.advance d).lines = s.lines := rfl
@[simp] theorem State.advance_safe (d : Nat) : (s.advance d).safe = s.safe := rfl
@[simp] theorem State.advance_triggers (d : Nat) : (s.advance d).triggers = s.triggers := rfl
@[simp] theorem State.advance_routes (d : Nat) : (s.advance d).routes = s.routes := rfl
@[simp] theorem State.advance_arm (d : Nat) : (s.advance d).timebase.arm = s.timebase.arm := rfl
@[simp] theorem State.advance_syncLevel (d : Nat) : (s.advance d).timebase.syncLevel = s.timebase.syncLevel := rfl
@[simp] theorem State.advance_queue (d : Nat) : (s.advance d).queue = s.queue := rfl
@[simp] theorem State.advance_delivery (d : Nat) : (s.advance d).delivery = s.delivery := rfl
@[simp] theorem State.advance_link (d : Nat) : (s.advance d).link = s.link := rfl
@[simp] theorem State.advance_pending (d : Nat) : (s.advance d).pending = s.pending := rfl
@[simp] theorem State.runTo_phase (t : Nat) : (s.runTo t).phase = s.phase := rfl
@[simp] theorem State.runTo_axes (t : Nat) : (s.runTo t).axes = s.axes := rfl
@[simp] theorem State.runTo_scheds (t : Nat) : (s.runTo t).scheds = s.scheds := rfl
@[simp] theorem State.runTo_free (t : Nat) : (s.runTo t).free = s.free := rfl
@[simp] theorem State.runTo_lines (t : Nat) : (s.runTo t).lines = s.lines := rfl
@[simp] theorem State.runTo_safe (t : Nat) : (s.runTo t).safe = s.safe := rfl
@[simp] theorem State.runTo_triggers (t : Nat) : (s.runTo t).triggers = s.triggers := rfl
@[simp] theorem State.runTo_wires (t : Nat) : (s.runTo t).wires = s.wires := rfl
@[simp] theorem State.runTo_routes (t : Nat) : (s.runTo t).routes = s.routes := rfl
@[simp] theorem State.runTo_arm (t : Nat) : (s.runTo t).timebase.arm = s.timebase.arm := rfl
@[simp] theorem State.runTo_queue (t : Nat) : (s.runTo t).queue = s.queue := rfl
@[simp] theorem State.runTo_delivery (t : Nat) : (s.runTo t).delivery = s.delivery := rfl
@[simp] theorem State.runTo_link (t : Nat) : (s.runTo t).link = s.link := rfl
@[simp] theorem State.runTo_pending (t : Nat) : (s.runTo t).pending = s.pending := rfl
@[simp] theorem State.runTo_axis (t : Nat) (i : AxisId) : (s.runTo t).axis i = s.axis i := rfl
@[simp] theorem State.advance_axis (d : Nat) (i : AxisId) : (s.advance d).axis i = s.axis i := rfl
@[simp] theorem State.runTo_sched (t : Nat) (i : AxisId) : (s.runTo t).sched i = s.sched i := rfl
@[simp] theorem State.advance_sched (d : Nat) (i : AxisId) : (s.advance d).sched i = s.sched i := rfl
@[simp] theorem State.runTo_line (t : Nat) (i : LineId) : (s.runTo t).line i = s.line i := rfl
@[simp] theorem State.advance_line (d : Nat) (i : LineId) : (s.advance d).line i = s.line i := rfl
@[simp] theorem State.runTo_trigger (t : Nat) (i : TriggerId) : (s.runTo t).trigger i = s.trigger i := rfl
@[simp] theorem State.advance_trigger (d : Nat) (i : TriggerId) : (s.advance d).trigger i = s.trigger i := rfl
@[simp] theorem State.runTo_route (t : Nat) (i : RouteId) : (s.runTo t).route i = s.route i := rfl
@[simp] theorem State.advance_route (d : Nat) (i : RouteId) : (s.advance d).route i = s.route i := rfl

/-- The moment reached: the later of the two. -/
theorem State.advance_advance (d e : Nat) : (s.advance d).advance e = s.advance (d + e) := by
  unfold State.advance
  by_cases h : s.phase = .coldReset
  · simp [h, Nat.add_assoc]
  · simp [h, Nat.add_assoc, BitVec.ofNat_add, BitVec.add_assoc]
theorem State.runTo_now (t : Nat) : (s.runTo t).now = max s.now t := by
  simp only [State.runTo, State.advance_now]; omega

/-! ### Records handed over -/

@[simp] theorem State.produce_phase (i : Item) : (s.produce i).phase = s.phase := rfl
@[simp] theorem State.produceIf_phase (b : Bool) (i : Item) : (s.produceIf b i).phase = s.phase := by
  cases b <;> rfl
@[simp] theorem State.produce_now (i : Item) : (s.produce i).now = s.now := rfl
@[simp] theorem State.produce_wires (i : Item) : (s.produce i).wires = s.wires := rfl
@[simp] theorem State.produceIf_now (b : Bool) (i : Item) : (s.produceIf b i).now = s.now := by
  cases b <;> rfl
@[simp] theorem State.produceIf_wires (b : Bool) (i : Item) : (s.produceIf b i).wires = s.wires := by
  cases b <;> rfl
@[simp] theorem State.produce_axes (i : Item) : (s.produce i).axes = s.axes := rfl
@[simp] theorem State.produceIf_axes (b : Bool) (i : Item) : (s.produceIf b i).axes = s.axes := by
  cases b <;> rfl
@[simp] theorem State.produce_scheds (i : Item) : (s.produce i).scheds = s.scheds := rfl
@[simp] theorem State.produceIf_scheds (b : Bool) (i : Item) : (s.produceIf b i).scheds = s.scheds := by
  cases b <;> rfl
@[simp] theorem State.produce_free (i : Item) : (s.produce i).free = s.free := rfl
@[simp] theorem State.produceIf_free (b : Bool) (i : Item) : (s.produceIf b i).free = s.free := by
  cases b <;> rfl
@[simp] theorem State.produce_lines (i : Item) : (s.produce i).lines = s.lines := rfl
@[simp] theorem State.produceIf_lines (b : Bool) (i : Item) : (s.produceIf b i).lines = s.lines := by
  cases b <;> rfl
@[simp] theorem State.produce_safe (i : Item) : (s.produce i).safe = s.safe := rfl
@[simp] theorem State.produceIf_safe (b : Bool) (i : Item) : (s.produceIf b i).safe = s.safe := by
  cases b <;> rfl
@[simp] theorem State.produce_triggers (i : Item) : (s.produce i).triggers = s.triggers := rfl
@[simp] theorem State.produceIf_triggers (b : Bool) (i : Item) : (s.produceIf b i).triggers = s.triggers := by
  cases b <;> rfl
@[simp] theorem State.produce_routes (i : Item) : (s.produce i).routes = s.routes := rfl
@[simp] theorem State.produceIf_routes (b : Bool) (i : Item) : (s.produceIf b i).routes = s.routes := by
  cases b <;> rfl
@[simp] theorem State.produce_timebase (i : Item) : (s.produce i).timebase = s.timebase := rfl
@[simp] theorem State.produceIf_timebase (b : Bool) (i : Item) : (s.produceIf b i).timebase = s.timebase := by
  cases b <;> rfl
@[simp] theorem State.produce_queue (i : Item) : (s.produce i).queue = s.queue.receive i := rfl
@[simp] theorem State.produceIf_queue (b : Bool) (i : Item) :
    (s.produceIf b i).queue = if b then s.queue.receive i else s.queue := by
  cases b <;> rfl
@[simp] theorem State.produce_delivery (i : Item) : (s.produce i).delivery = s.delivery := rfl
@[simp] theorem State.produceIf_delivery (b : Bool) (i : Item) : (s.produceIf b i).delivery = s.delivery := by
  cases b <;> rfl
@[simp] theorem State.produce_link (i : Item) : (s.produce i).link = s.link := rfl
@[simp] theorem State.produceIf_link (b : Bool) (i : Item) : (s.produceIf b i).link = s.link := by
  cases b <;> rfl
@[simp] theorem State.produce_pending (i : Item) : (s.produce i).pending = s.pending := rfl
@[simp] theorem State.produceIf_pending (b : Bool) (i : Item) : (s.produceIf b i).pending = s.pending := by
  cases b <;> rfl
@[simp] theorem State.produce_axis (i : Item) (n : AxisId) : (s.produce i).axis n = s.axis n := rfl
@[simp] theorem State.produceIf_axis (b : Bool) (i : Item) (n : AxisId) : (s.produceIf b i).axis n = s.axis n := by
  cases b <;> rfl
@[simp] theorem State.produce_sched (i : Item) (n : AxisId) : (s.produce i).sched n = s.sched n := rfl
@[simp] theorem State.produceIf_sched (b : Bool) (i : Item) (n : AxisId) : (s.produceIf b i).sched n = s.sched n := by
  cases b <;> rfl
@[simp] theorem State.produce_line (i : Item) (n : LineId) : (s.produce i).line n = s.line n := rfl
@[simp] theorem State.produceIf_line (b : Bool) (i : Item) (n : LineId) : (s.produceIf b i).line n = s.line n := by
  cases b <;> rfl
@[simp] theorem State.produce_trigger (i : Item) (n : TriggerId) : (s.produce i).trigger n = s.trigger n := rfl
@[simp] theorem State.produceIf_trigger (b : Bool) (i : Item) (n : TriggerId) : (s.produceIf b i).trigger n = s.trigger n := by
  cases b <;> rfl
@[simp] theorem State.produce_route (i : Item) (n : RouteId) : (s.produce i).route n = s.route n := rfl
@[simp] theorem State.produceIf_route (b : Bool) (i : Item) (n : RouteId) : (s.produceIf b i).route n = s.route n := by
  cases b <;> rfl

/-! ### setWires -/

@[simp] theorem State.setWires_phase (w : Wires) : (s.setWires w).phase = s.phase := rfl
@[simp] theorem State.setWires_now (w : Wires) : (s.setWires w).now = s.now := rfl
@[simp] theorem State.setWires_axes (w : Wires) : (s.setWires w).axes = s.axes := rfl
@[simp] theorem State.setWires_scheds (w : Wires) : (s.setWires w).scheds = s.scheds := rfl
@[simp] theorem State.setWires_free (w : Wires) : (s.setWires w).free = s.free := rfl
@[simp] theorem State.setWires_lines (w : Wires) : (s.setWires w).lines = s.lines := rfl
@[simp] theorem State.setWires_safe (w : Wires) : (s.setWires w).safe = s.safe := rfl
@[simp] theorem State.setWires_triggers (w : Wires) : (s.setWires w).triggers = s.triggers := rfl
@[simp] theorem State.setWires_routes (w : Wires) : (s.setWires w).routes = s.routes := rfl
@[simp] theorem State.setWires_timebase (w : Wires) : (s.setWires w).timebase = s.timebase := rfl
@[simp] theorem State.setWires_queue (w : Wires) : (s.setWires w).queue = s.queue := rfl
@[simp] theorem State.setWires_delivery (w : Wires) : (s.setWires w).delivery = s.delivery := rfl
@[simp] theorem State.setWires_link (w : Wires) : (s.setWires w).link = s.link := rfl
@[simp] theorem State.setWires_pending (w : Wires) : (s.setWires w).pending = s.pending := rfl
@[simp] theorem State.setWires_wires (w : Wires) : (s.setWires w).wires = w := rfl
@[simp] theorem State.setWires_setWires (w w' : Wires) : (s.setWires w).setWires w' = s.setWires w' := rfl
@[simp] theorem State.setWires_self : s.setWires s.wires = s := rfl
@[simp] theorem State.setWires_axis (w : Wires) (i : AxisId) : (s.setWires w).axis i = s.axis i := rfl
@[simp] theorem State.setWires_sched (w : Wires) (i : AxisId) : (s.setWires w).sched i = s.sched i := rfl
@[simp] theorem State.setWires_line (w : Wires) (i : LineId) : (s.setWires w).line i = s.line i := rfl
@[simp] theorem State.setWires_trigger (w : Wires) (i : TriggerId) : (s.setWires w).trigger i = s.trigger i := rfl
@[simp] theorem State.setWires_route (w : Wires) (i : RouteId) : (s.setWires w).route i = s.route i := rfl

/-! ### setAxisWires -/

@[simp] theorem State.setAxisWires_phase (n : AxisId) (w : AxisWires) : (s.setAxisWires n w).phase = s.phase := rfl
@[simp] theorem State.setAxisWires_now (n : AxisId) (w : AxisWires) : (s.setAxisWires n w).now = s.now := rfl
@[simp] theorem State.setAxisWires_axes (n : AxisId) (w : AxisWires) : (s.setAxisWires n w).axes = s.axes := rfl
@[simp] theorem State.setAxisWires_scheds (n : AxisId) (w : AxisWires) : (s.setAxisWires n w).scheds = s.scheds := rfl
@[simp] theorem State.setAxisWires_free (n : AxisId) (w : AxisWires) : (s.setAxisWires n w).free = s.free := rfl
@[simp] theorem State.setAxisWires_lines (n : AxisId) (w : AxisWires) : (s.setAxisWires n w).lines = s.lines := rfl
@[simp] theorem State.setAxisWires_safe (n : AxisId) (w : AxisWires) : (s.setAxisWires n w).safe = s.safe := rfl
@[simp] theorem State.setAxisWires_triggers (n : AxisId) (w : AxisWires) : (s.setAxisWires n w).triggers = s.triggers := rfl
@[simp] theorem State.setAxisWires_routes (n : AxisId) (w : AxisWires) : (s.setAxisWires n w).routes = s.routes := rfl
@[simp] theorem State.setAxisWires_timebase (n : AxisId) (w : AxisWires) : (s.setAxisWires n w).timebase = s.timebase := rfl
@[simp] theorem State.setAxisWires_queue (n : AxisId) (w : AxisWires) : (s.setAxisWires n w).queue = s.queue := rfl
@[simp] theorem State.setAxisWires_delivery (n : AxisId) (w : AxisWires) : (s.setAxisWires n w).delivery = s.delivery := rfl
@[simp] theorem State.setAxisWires_link (n : AxisId) (w : AxisWires) : (s.setAxisWires n w).link = s.link := rfl
@[simp] theorem State.setAxisWires_pending (n : AxisId) (w : AxisWires) : (s.setAxisWires n w).pending = s.pending := rfl
@[simp] theorem State.setAxisWires_axis (n : AxisId) (w : AxisWires) (i : AxisId) : (s.setAxisWires n w).axis i = s.axis i := rfl
@[simp] theorem State.setAxisWires_sched (n : AxisId) (w : AxisWires) (i : AxisId) : (s.setAxisWires n w).sched i = s.sched i := rfl
@[simp] theorem State.setAxisWires_line (n : AxisId) (w : AxisWires) (i : LineId) : (s.setAxisWires n w).line i = s.line i := rfl
@[simp] theorem State.setAxisWires_trigger (n : AxisId) (w : AxisWires) (i : TriggerId) : (s.setAxisWires n w).trigger i = s.trigger i := rfl
@[simp] theorem State.setAxisWires_route (n : AxisId) (w : AxisWires) (i : RouteId) : (s.setAxisWires n w).route i = s.route i := rfl

/-! ### setTriggerWire -/

@[simp] theorem State.setTriggerWire_phase (k : TriggerId) (w : List Nat) : (s.setTriggerWire k w).phase = s.phase := rfl
@[simp] theorem State.setTriggerWire_now (k : TriggerId) (w : List Nat) : (s.setTriggerWire k w).now = s.now := rfl
@[simp] theorem State.setTriggerWire_axes (k : TriggerId) (w : List Nat) : (s.setTriggerWire k w).axes = s.axes := rfl
@[simp] theorem State.setTriggerWire_scheds (k : TriggerId) (w : List Nat) : (s.setTriggerWire k w).scheds = s.scheds := rfl
@[simp] theorem State.setTriggerWire_free (k : TriggerId) (w : List Nat) : (s.setTriggerWire k w).free = s.free := rfl
@[simp] theorem State.setTriggerWire_lines (k : TriggerId) (w : List Nat) : (s.setTriggerWire k w).lines = s.lines := rfl
@[simp] theorem State.setTriggerWire_safe (k : TriggerId) (w : List Nat) : (s.setTriggerWire k w).safe = s.safe := rfl
@[simp] theorem State.setTriggerWire_triggers (k : TriggerId) (w : List Nat) : (s.setTriggerWire k w).triggers = s.triggers := rfl
@[simp] theorem State.setTriggerWire_routes (k : TriggerId) (w : List Nat) : (s.setTriggerWire k w).routes = s.routes := rfl
@[simp] theorem State.setTriggerWire_timebase (k : TriggerId) (w : List Nat) : (s.setTriggerWire k w).timebase = s.timebase := rfl
@[simp] theorem State.setTriggerWire_queue (k : TriggerId) (w : List Nat) : (s.setTriggerWire k w).queue = s.queue := rfl
@[simp] theorem State.setTriggerWire_delivery (k : TriggerId) (w : List Nat) : (s.setTriggerWire k w).delivery = s.delivery := rfl
@[simp] theorem State.setTriggerWire_link (k : TriggerId) (w : List Nat) : (s.setTriggerWire k w).link = s.link := rfl
@[simp] theorem State.setTriggerWire_pending (k : TriggerId) (w : List Nat) : (s.setTriggerWire k w).pending = s.pending := rfl
@[simp] theorem State.setTriggerWire_axis (k : TriggerId) (w : List Nat) (i : AxisId) : (s.setTriggerWire k w).axis i = s.axis i := rfl
@[simp] theorem State.setTriggerWire_sched (k : TriggerId) (w : List Nat) (i : AxisId) : (s.setTriggerWire k w).sched i = s.sched i := rfl
@[simp] theorem State.setTriggerWire_line (k : TriggerId) (w : List Nat) (i : LineId) : (s.setTriggerWire k w).line i = s.line i := rfl
@[simp] theorem State.setTriggerWire_trigger (k : TriggerId) (w : List Nat) (i : TriggerId) : (s.setTriggerWire k w).trigger i = s.trigger i := rfl
@[simp] theorem State.setTriggerWire_route (k : TriggerId) (w : List Nat) (i : RouteId) : (s.setTriggerWire k w).route i = s.route i := rfl

/-! ### setSyncWire -/

@[simp] theorem State.setSyncWire_phase (w : List Nat) : (s.setSyncWire w).phase = s.phase := rfl
@[simp] theorem State.setSyncWire_now (w : List Nat) : (s.setSyncWire w).now = s.now := rfl
@[simp] theorem State.setSyncWire_axes (w : List Nat) : (s.setSyncWire w).axes = s.axes := rfl
@[simp] theorem State.setSyncWire_scheds (w : List Nat) : (s.setSyncWire w).scheds = s.scheds := rfl
@[simp] theorem State.setSyncWire_free (w : List Nat) : (s.setSyncWire w).free = s.free := rfl
@[simp] theorem State.setSyncWire_lines (w : List Nat) : (s.setSyncWire w).lines = s.lines := rfl
@[simp] theorem State.setSyncWire_safe (w : List Nat) : (s.setSyncWire w).safe = s.safe := rfl
@[simp] theorem State.setSyncWire_triggers (w : List Nat) : (s.setSyncWire w).triggers = s.triggers := rfl
@[simp] theorem State.setSyncWire_routes (w : List Nat) : (s.setSyncWire w).routes = s.routes := rfl
@[simp] theorem State.setSyncWire_timebase (w : List Nat) : (s.setSyncWire w).timebase = s.timebase := rfl
@[simp] theorem State.setSyncWire_queue (w : List Nat) : (s.setSyncWire w).queue = s.queue := rfl
@[simp] theorem State.setSyncWire_delivery (w : List Nat) : (s.setSyncWire w).delivery = s.delivery := rfl
@[simp] theorem State.setSyncWire_link (w : List Nat) : (s.setSyncWire w).link = s.link := rfl
@[simp] theorem State.setSyncWire_pending (w : List Nat) : (s.setSyncWire w).pending = s.pending := rfl
@[simp] theorem State.setSyncWire_axis (w : List Nat) (i : AxisId) : (s.setSyncWire w).axis i = s.axis i := rfl
@[simp] theorem State.setSyncWire_sched (w : List Nat) (i : AxisId) : (s.setSyncWire w).sched i = s.sched i := rfl
@[simp] theorem State.setSyncWire_line (w : List Nat) (i : LineId) : (s.setSyncWire w).line i = s.line i := rfl
@[simp] theorem State.setSyncWire_trigger (w : List Nat) (i : TriggerId) : (s.setSyncWire w).trigger i = s.trigger i := rfl
@[simp] theorem State.setSyncWire_route (w : List Nat) (i : RouteId) : (s.setSyncWire w).route i = s.route i := rfl

@[simp] theorem State.setAxisWires_same (n : AxisId) (w : AxisWires) : (s.setAxisWires n w).axisWires n = w := by
  simp [State.setAxisWires, State.axisWires]
theorem State.setAxisWires_ne (n : AxisId) (w : AxisWires) {m : AxisId} (h : m ≠ n) :
    (s.setAxisWires n w).axisWires m = s.axisWires m := by
  have h' : n.val ≠ m.val := fun e => h (Fin.ext e.symm)
  simp [State.setAxisWires, State.axisWires, Vector.getElem_set_ne _ _ h']
@[simp] theorem State.setTriggerWire_same (k : TriggerId) (w : List Nat) :
    (s.setTriggerWire k w).triggerWire k = w := by
  simp [State.setTriggerWire, State.triggerWire]
theorem State.setTriggerWire_ne (k : TriggerId) (w : List Nat) {i : TriggerId} (h : i ≠ k) :
    (s.setTriggerWire k w).triggerWire i = s.triggerWire i := by
  have h' : k.val ≠ i.val := fun e => h (Fin.ext e.symm)
  simp [State.setTriggerWire, State.triggerWire, Vector.getElem_set_ne _ _ h']

end Sys2Proof.Machine
end

