-- ==== Sys2Proof/Laws/Filter.lean ====
section
/-! SUPPORT. The state after a filtered change has been taken from its line, field by field, and what the line filters
keep. -/

namespace Sys2Proof.Machine

variable (s : State)

/-! ### takePair and takeIndex -/

@[simp] theorem State.takePair_phase (n : AxisId) (c : PairChange) : (s.takePair n c).phase = s.phase := rfl
@[simp] theorem State.takePair_scheds (n : AxisId) (c : PairChange) : (s.takePair n c).scheds = s.scheds := rfl
@[simp] theorem State.takePair_free (n : AxisId) (c : PairChange) : (s.takePair n c).free = s.free := rfl
@[simp] theorem State.takePair_lines (n : AxisId) (c : PairChange) : (s.takePair n c).lines = s.lines := rfl
@[simp] theorem State.takePair_safe (n : AxisId) (c : PairChange) : (s.takePair n c).safe = s.safe := rfl
@[simp] theorem State.takePair_triggers (n : AxisId) (c : PairChange) : (s.takePair n c).triggers = s.triggers := rfl
@[simp] theorem State.takePair_routes (n : AxisId) (c : PairChange) : (s.takePair n c).routes = s.routes := rfl
@[simp] theorem State.takePair_queue (n : AxisId) (c : PairChange) : (s.takePair n c).queue = s.queue := rfl
@[simp] theorem State.takePair_delivery (n : AxisId) (c : PairChange) : (s.takePair n c).delivery = s.delivery := rfl
@[simp] theorem State.takePair_link (n : AxisId) (c : PairChange) : (s.takePair n c).link = s.link := rfl
@[simp] theorem State.takePair_pending (n : AxisId) (c : PairChange) : (s.takePair n c).pending = s.pending := rfl
@[simp] theorem State.takePair_now (n : AxisId) (c : PairChange) : (s.takePair n c).now = (s.runTo c.time).now := rfl
@[simp] theorem State.takePair_timebase (n : AxisId) (c : PairChange) : (s.takePair n c).timebase = (s.runTo c.time).timebase := rfl
@[simp] theorem State.takePair_sched (n : AxisId) (c : PairChange) (i : AxisId) : (s.takePair n c).sched i = s.sched i := rfl
@[simp] theorem State.takePair_line (n : AxisId) (c : PairChange) (i : LineId) : (s.takePair n c).line i = s.line i := rfl
@[simp] theorem State.takePair_trigger (n : AxisId) (c : PairChange) (i : TriggerId) : (s.takePair n c).trigger i = s.trigger i := rfl
@[simp] theorem State.takePair_route (n : AxisId) (c : PairChange) (i : RouteId) : (s.takePair n c).route i = s.route i := rfl
@[simp] theorem State.takePair_axis_same (n : AxisId) (c : PairChange) :
    (s.takePair n c).axis n = { s.axis n with decoder := { (s.axis n).decoder with a := c.a, b := c.b } } := by simp [State.takePair]
theorem State.takePair_axis_ne (n : AxisId) (c : PairChange) {m : AxisId} (h : m ≠ n) : (s.takePair n c).axis m = s.axis m := by
  rw [State.takePair, State.setAxis_axis_ne _ _ _ h]; rfl
@[simp] theorem State.takeIndex_phase (n : AxisId) (c : LineChange) : (s.takeIndex n c).phase = s.phase := rfl
@[simp] theorem State.takeIndex_scheds (n : AxisId) (c : LineChange) : (s.takeIndex n c).scheds = s.scheds := rfl
@[simp] theorem State.takeIndex_free (n : AxisId) (c : LineChange) : (s.takeIndex n c).free = s.free := rfl
@[simp] theorem State.takeIndex_lines (n : AxisId) (c : LineChange) : (s.takeIndex n c).lines = s.lines := rfl
@[simp] theorem State.takeIndex_safe (n : AxisId) (c : LineChange) : (s.takeIndex n c).safe = s.safe := rfl
@[simp] theorem State.takeIndex_triggers (n : AxisId) (c : LineChange) : (s.takeIndex n c).triggers = s.triggers := rfl
@[simp] theorem State.takeIndex_routes (n : AxisId) (c : LineChange) : (s.takeIndex n c).routes = s.routes := rfl
@[simp] theorem State.takeIndex_queue (n : AxisId) (c : LineChange) : (s.takeIndex n c).queue = s.queue := rfl
@[simp] theorem State.takeIndex_delivery (n : AxisId) (c : LineChange) : (s.takeIndex n c).delivery = s.delivery := rfl
@[simp] theorem State.takeIndex_link (n : AxisId) (c : LineChange) : (s.takeIndex n c).link = s.link := rfl
@[simp] theorem State.takeIndex_pending (n : AxisId) (c : LineChange) : (s.takeIndex n c).pending = s.pending := rfl
@[simp] theorem State.takeIndex_now (n : AxisId) (c : LineChange) : (s.takeIndex n c).now = (s.runTo c.time).now := rfl
@[simp] theorem State.takeIndex_timebase (n : AxisId) (c : LineChange) : (s.takeIndex n c).timebase = (s.runTo c.time).timebase := rfl
@[simp] theorem State.takeIndex_sched (n : AxisId) (c : LineChange) (i : AxisId) : (s.takeIndex n c).sched i = s.sched i := rfl
@[simp] theorem State.takeIndex_line (n : AxisId) (c : LineChange) (i : LineId) : (s.takeIndex n c).line i = s.line i := rfl
@[simp] theorem State.takeIndex_trigger (n : AxisId) (c : LineChange) (i : TriggerId) : (s.takeIndex n c).trigger i = s.trigger i := rfl
@[simp] theorem State.takeIndex_route (n : AxisId) (c : LineChange) (i : RouteId) : (s.takeIndex n c).route i = s.route i := rfl
@[simp] theorem State.takeIndex_axis_same (n : AxisId) (c : LineChange) :
    (s.takeIndex n c).axis n = { s.axis n with decoder := { (s.axis n).decoder with index := (s.axis n).decoder.index.flip } } := by simp [State.takeIndex]
theorem State.takeIndex_axis_ne (n : AxisId) (c : LineChange) {m : AxisId} (h : m ≠ n) : (s.takeIndex n c).axis m = s.axis m := by
  rw [State.takeIndex, State.setAxis_axis_ne _ _ _ h]; rfl

/-! ### Rising lists of changes -/

/-- A filter's next change leaves a rising list rising. -/
theorem nextHeld_left {f : Nat} {w : List Nat} (h : w.Pairwise (· < ·)) {c : LineChange} (hc : nextHeld f w = some c) :
    c.left.Pairwise (· < ·) := by
  induction w using nextHeld.induct f with
  | case1 => simp [nextHeld] at hc
  | case2 m => simp only [nextHeld, Option.some.injEq] at hc; subst hc; exact .nil
  | case3 m r rest hr ih =>
    rw [nextHeld, if_pos hr] at hc
    exact ih (h.of_cons.of_cons) hc
  | case4 m r rest hr =>
    rw [nextHeld, if_neg hr] at hc
    injection hc with hc; subst hc
    exact h.of_cons

theorem heldEdge_left {f : Nat} {w : List Nat} (h : w.Pairwise (· < ·)) {c : LineChange} (hc : heldEdge f w = some c) :
    c.left.Pairwise (· < ·) := by
  match w, hc with
  | [m], hc => simp only [heldEdge, Option.some.injEq] at hc; subst hc; exact .nil
  | m :: r :: rest, hc =>
    rw [heldEdge] at hc
    split at hc
    · cases hc
    · injection hc with hc; subst hc; exact h.of_cons

theorem rejectedReturn_left {f : Nat} {w : List Nat} (h : w.Pairwise (· < ·)) {c : LineChange}
    (hc : rejectedReturn f w = some c) : c.left.Pairwise (· < ·) := by
  match w, hc with
  | m :: r :: rest, hc =>
    rw [rejectedReturn] at hc
    split at hc
    · injection hc with hc; subst hc; exact h.of_cons.of_cons
    · cases hc

theorem dropReturned_rising {f t : Nat} {w : List Nat} (h : w.Pairwise (· < ·)) : (dropReturned f t w).Pairwise (· < ·) := by
  induction w using dropReturned.induct f t with
  | case1 m r rest hr ih => rw [dropReturned, if_pos hr]; exact ih h.of_cons.of_cons
  | case2 m r rest hr => rw [dropReturned, if_neg hr]; exact h
  | case3 m => exact h
  | case4 => exact h

theorem changesAfter_rising {t : Nat} {w : List Nat} (h : w.Pairwise (· < ·)) : (changesAfter t w).Pairwise (· < ·) :=
  h.sublist (List.dropWhile_sublist _)

/-! ### Rising lines -/

theorem Wires.Rising.setAxis {w : Wires} (h : w.Rising) (n : AxisId) {x : AxisWires} (ha : x.a.Pairwise (· < ·))
    (hb : x.b.Pairwise (· < ·)) (hi : x.index.Pairwise (· < ·)) : ({ w with axes := w.axes.set n x } : Wires).Rising := by
  refine ⟨fun m => ?_, h.2⟩
  simp only [Fin.getElem_fin, Vector.getElem_set]
  split
  · exact ⟨ha, hb, hi⟩
  · exact h.1 m

theorem Wires.Rising.setTrigger {w : Wires} (h : w.Rising) (k : TriggerId) {x : List Nat} (hx : x.Pairwise (· < ·)) :
    ({ w with triggers := w.triggers.set k x } : Wires).Rising := by
  refine ⟨h.1, fun m => ?_, h.2.2⟩
  simp only [Fin.getElem_fin, Vector.getElem_set]
  split
  · exact hx
  · exact h.2.1 m

theorem Wires.Rising.setSync {w : Wires} (h : w.Rising) {x : List Nat} (hx : x.Pairwise (· < ·)) :
    ({ w with sync := x } : Wires).Rising := ⟨h.1, h.2.1, hx⟩

theorem Wires.Rising.after {w : Wires} (h : w.Rising) (t : Nat) : (w.after t).Rising := by
  refine ⟨fun n => ?_, fun k => ?_, changesAfter_rising h.2.2⟩
  · simp only [Wires.after, Fin.getElem_fin, Vector.getElem_map]
    exact ⟨changesAfter_rising (h.1 n).1, changesAfter_rising (h.1 n).2.1, changesAfter_rising (h.1 n).2.2⟩
  · simp only [Wires.after, Fin.getElem_fin, Vector.getElem_map]
    exact changesAfter_rising (h.2.1 k)

/-- A change of the pair leaves rising lines rising. -/
theorem State.nextPair_rising {s : State} {n : AxisId} {c : PairChange} (hc : s.nextPair n = some c) (h : s.wires.Rising) :
    ({ s.wires with axes := s.wires.axes.set n c.wires } : Wires).Rising := by
  obtain ⟨ha, hb, hi⟩ := h.1 n
  unfold State.nextPair Machine.nextPair at hc
  split at hc
  · cases hc
  · rename_i x hx _
    injection hc with hc; subst hc
    exact h.setAxis n (nextHeld_left ha hx) hb hi
  · rename_i y _ hy
    injection hc with hc; subst hc
    exact h.setAxis n ha (nextHeld_left hb hy) hi
  · rename_i x y hx hy
    split at hc
    · injection hc with hc; subst hc
      exact h.setAxis n (nextHeld_left ha hx) hb hi
    · split at hc
      · injection hc with hc; subst hc
        exact h.setAxis n ha (nextHeld_left hb hy) hi
      · injection hc with hc; subst hc
        exact h.setAxis n (nextHeld_left ha hx) (nextHeld_left hb hy) hi

/-- A change of the index line leaves rising lines rising. -/
theorem State.nextIndex_rising {s : State} {n : AxisId} {c : LineChange} (hc : s.nextIndex n = some c) (h : s.wires.Rising) :
    ({ s.wires with axes := s.wires.axes.set n { s.axisWires n with index := c.left } } : Wires).Rising :=
  h.setAxis n (h.1 n).1 (h.1 n).2.1 (nextHeld_left (h.1 n).2.2 hc)

end Sys2Proof.Machine
end

