-- ==== Sys2Proof/Laws/Queue.lean ====
section
/-! SUPPORT. The Record Queue, said once: what handing it a record or removing records does, that its numbering stays
consecutive, and that everything but an acknowledgement only adds records at its newest end. -/

namespace Sys2Proof.Machine

/-! ### Handing over a record -/

/-- A producer's record changes the queue alone (R127). -/
theorem State.produce_eq (s : State) (i : Item) : s.produce i = { s with queue := s.queue.receive i } := rfl

/-- A record behind a kind enable changes the queue alone (R134). -/
theorem State.produceIf_eq (s : State) (e : Bool) (i : Item) :
    s.produceIf e i = { s with queue := s.queue.offer e i } := by
  cases e <;> rfl

/-- With room the record is admitted (R138). -/
theorem RecordQueue.receive_room {q : RecordQueue} (h : q.records.length < 256) (i : Item) :
    q.receive i = q.place i := if_pos h

/-- At 256 records the record is lost (R140). -/
theorem RecordQueue.receive_full {q : RecordQueue} (h : 256 ≤ q.records.length) (i : Item) : q.receive i = q.lose :=
  if_neg (Nat.not_lt.mpr h)

/-- Handing over a record leaves the kind enables. -/
@[simp] theorem RecordQueue.receive_enables (q : RecordQueue) (i : Item) : (q.receive i).enables = q.enables := by
  unfold RecordQueue.receive; split <;> rfl

/-- So does offering one. -/
@[simp] theorem RecordQueue.offer_enables (q : RecordQueue) (e : Bool) (i : Item) : (q.offer e i).enables = q.enables := by
  cases e <;> simp [RecordQueue.offer]

/-! ### What a queue has been handed -/

/-- `q'` is `q` after some records were handed to it. -/
def Grown (q q' : RecordQueue) : Prop := ∃ items : List Item, q' = items.foldl RecordQueue.receive q

theorem Grown.refl (q : RecordQueue) : Grown q q := ⟨[], rfl⟩

theorem Grown.receive {q q' : RecordQueue} (h : Grown q q') (i : Item) : Grown q (q'.receive i) := by
  obtain ⟨items, rfl⟩ := h
  exact ⟨items ++ [i], by simp⟩

theorem Grown.offer {q q' : RecordQueue} (h : Grown q q') (e : Bool) (i : Item) : Grown q (q'.offer e i) := by
  cases e
  · exact h
  · exact h.receive i

theorem Grown.trans {a b c : RecordQueue} (h : Grown a b) (h' : Grown b c) : Grown a c := by
  obtain ⟨x, rfl⟩ := h
  obtain ⟨y, rfl⟩ := h'
  exact ⟨x ++ y, by simp⟩

/-- What every hand-over keeps, a grown queue keeps. -/
theorem Grown.keeps {q q' : RecordQueue} (h : Grown q q') (P : RecordQueue → Prop)
    (step : ∀ q i, P q → P (q.receive i)) (hq : P q) : P q' := by
  obtain ⟨items, rfl⟩ := h
  induction items generalizing q with
  | nil => exact hq
  | cons i is ih => exact ih (step q i hq)

/-- A grown queue holds its records and newer ones. -/
theorem Grown.records {q q' : RecordQueue} (h : Grown q q') : ∃ new, q'.records = q.records ++ new := by
  refine h.keeps (fun x => ∃ new, x.records = q.records ++ new) ?_ ⟨[], by simp⟩
  rintro x i ⟨new, hx⟩
  unfold RecordQueue.receive
  split
  · exact ⟨new ++ [⟨x.next, i⟩], by simp [RecordQueue.place, hx]⟩
  · exact ⟨new, hx⟩

/-! ### Numbering -/

/-- The oldest sequence number lies the occupancy below the next one (R137). -/
theorem QueueInv.oldest_eq {q : RecordQueue} (h : QueueInv q) :
    q.oldest = q.next - BitVec.ofNat 32 q.records.length := by
  unfold RecordQueue.oldest
  split
  · rename_i hr; simp [hr]
  · rename_i r rs hr
    have := h.2.1 0 (by simp [hr])
    simpa [hr] using this

/-- Admission keeps the numbering. -/
theorem QueueInv.place {q : RecordQueue} (h : QueueInv q) (hr : q.records.length < 256) (i : Item)
    (hl : q.pendingLoss = 0) : QueueInv (q.place i) := by
  refine ⟨by simp [RecordQueue.place]; omega, fun j hj => ?_, fun hn => absurd hl hn⟩
  simp only [RecordQueue.place, List.length_append, List.length_singleton] at hj ⊢
  by_cases hjl : j < q.records.length
  · rw [List.getElem_append_left hjl, h.2.1 j hjl]
    have : q.records.length + 1 - j = (q.records.length - j) + 1 := by omega
    rw [this, BitVec.ofNat_add]
    generalize BitVec.ofNat 32 (q.records.length - j) = d
    bv_omega
  · have : j = q.records.length := by omega
    subst this
    simp

/-- Handing over a record keeps the numbering (R137, R138, R140, R142). -/
theorem QueueInv.receive {q : RecordQueue} (h : QueueInv q) (i : Item) : QueueInv (q.receive i) := by
  by_cases hr : q.records.length < 256
  · rw [RecordQueue.receive_room hr]
    exact h.place hr i (by by_contra hn; have := h.2.2 hn; omega)
  · rw [RecordQueue.receive_full (by omega)]
    exact ⟨h.1, h.2.1, fun _ => by have := h.1; simp only [RecordQueue.lose]; omega⟩

/-- Removing at least one record keeps the numbering (R141, R142). -/
theorem QueueInv.remove {q : RecordQueue} (h : QueueInv q) (k : Nat) (t : Ticks) (hk : 1 ≤ k) :
    QueueInv (q.remove k t) := by
  have hd : QueueInv { q with records := q.records.drop k, pendingLoss := 0 } := by
    refine ⟨by have := h.1; simp; omega, fun i hi => ?_, fun hn => absurd rfl hn⟩
    simp only [List.length_drop, List.getElem_drop] at hi ⊢
    rw [h.2.1 (k + i) (by omega)]
    congr 2
    omega
  unfold RecordQueue.remove
  simp only
  split
  · rename_i h0
    have : q = { q with pendingLoss := 0 } := by rw [← h0]
    rw [this]; exact hd
  · exact hd.place (by have := h.1; simp; omega) _ rfl

end Sys2Proof.Machine
end

