-- ==== Sys2Proof/Laws/Schedule.lean ====
section
/-! SUPPORT. What the shared operations of the Output Unit and of the schedules change, each said once: an action at a
line changes that line and hands over records; an operation on a schedule changes that schedule, at a commit the free
count, and hands over records. -/

namespace Sys2Proof.Machine

/-! ### Output lines -/

/-- A per-line record changes the queue alone (R88). -/
theorem lineRecord_eq (l : LineId) (reason : LineReason) (s : State) :
    lineRecord l reason s = { s with
      queue := s.queue.offer (s.queue.enables.output && (s.line l).report)
        ⟨.output l reason (s.line l).drops (s.line l).preempts, s.timebase.count, []⟩ } :=
  State.produceIf_eq s _ _

/-- A dropped action (R84, R85, R87, R94): the drop count, and the record. -/
theorem dropAction_eq (l : LineId) (reason : LineReason) (s : State) :
    dropAction l reason s = { s with
      lines := s.lines.set l { s.line l with drops := inc16 (s.line l).drops }
      queue := s.queue.offer (s.queue.enables.output && (s.line l).report)
        ⟨.output l reason (inc16 (s.line l).drops) (s.line l).preempts, s.timebase.count, []⟩ } := by
  unfold dropAction
  rw [lineRecord_eq]
  simp [State.setLine, State.line]

/-- A preemption (R83): the running action is cut short, counted and reported. -/
theorem preempt_eq (l : LineId) (s : State) :
    preempt l s = { s with
      lines := s.lines.set l
        { (s.line l).cutShort s.now with preempts := inc16 ((s.line l).cutShort s.now).preempts }
      queue := s.queue.offer (s.queue.enables.output && ((s.line l).cutShort s.now).report)
        ⟨.output l .preempted ((s.line l).cutShort s.now).drops (inc16 ((s.line l).cutShort s.now).preempts),
          s.timebase.count, []⟩ } := by
  unfold preempt
  rw [lineRecord_eq]
  simp [State.setLine, State.line]

/-- Everything an action can do at a line: it changes that line, and hands over records (R78 to R85). -/
theorem takeAction_frame (l : LineId) (act : OutAction) (s : State) :
    ∃ x q, Grown s.queue q ∧ (takeAction l act s).1 = { s with lines := s.lines.set l x, queue := q } := by
  unfold takeAction
  split
  · exact ⟨_, s.queue, Grown.refl _, rfl⟩
  · split
    · refine ⟨((preempt l s).line l).takeFree (preempt l s).now act, (preempt l s).queue, ?_, ?_⟩
      · rw [preempt_eq]
        exact (Grown.refl _).offer _ _
      · simp only [preempt_eq, State.setLine, Vector.set_set]
    · split
      · exact ⟨_, s.queue, Grown.refl _, rfl⟩
      · simp only [dropAction_eq]
        exact ⟨_, _, (Grown.refl _).offer _ _, rfl⟩
    · simp only [dropAction_eq]
      exact ⟨_, _, (Grown.refl _).offer _ _, rfl⟩

/-- Everything a compare's or a route's action can do. -/
theorem issueAction_frame (l : LineId) (act : OutAction) (s : State) :
    ∃ x q, Grown s.queue q ∧ issueAction l act s = { s with lines := s.lines.set l x, queue := q } := by
  unfold issueAction
  split
  · rw [dropAction_eq]
    exact ⟨_, _, (Grown.refl _).offer _ _, rfl⟩
  · exact takeAction_frame l act s

/-- Everything SAFE entry can do (R93). -/
theorem enterSafe_frame (s : State) :
    ∃ lines q, Grown s.queue q ∧ enterSafe s = { s with lines := lines, safe := true, queue := q } := by
  unfold enterSafe
  split
  · rename_i h
    exact ⟨s.lines, s.queue, Grown.refl _, by rw [← h]⟩
  · rw [State.produceIf_eq]
    exact ⟨_, _, (Grown.refl _).offer _ _, rfl⟩

/-! ### Schedules -/

/-- A SCHEDULE record changes the queue alone (R74). -/
theorem schedRecord_eq (n : AxisId) (reason : SchedReason) (s : State) :
    schedRecord n reason s = { s with
      queue := s.queue.offer s.queue.enables.schedule
        ⟨.schedule n reason (s.sched n).active.length, s.timebase.count, []⟩ } :=
  State.produceIf_eq s _ _

/-- `t` is `s` with the schedule of axis n and the free count replaced, and records handed over. -/
def OnSchedule (n : AxisId) (s t : State) : Prop :=
  ∃ c f q, Grown s.queue q ∧ t = { s with scheds := s.scheds.set n c, free := f, queue := q }

theorem OnSchedule.refl (n : AxisId) (s : State) : OnSchedule n s s :=
  ⟨s.sched n, s.free, s.queue, Grown.refl _, by simp [State.sched]⟩

theorem OnSchedule.setSched {n : AxisId} {s t : State} (h : OnSchedule n s t) (c : Schedule) :
    OnSchedule n s (t.setSched n c) := by
  obtain ⟨c', f, q, hq, rfl⟩ := h
  exact ⟨c, f, q, hq, by simp [State.setSched]⟩

theorem OnSchedule.setFree {n : AxisId} {s t : State} (h : OnSchedule n s t) (f : Nat) :
    OnSchedule n s (t.setFree f) := by
  obtain ⟨c', f', q, hq, rfl⟩ := h
  exact ⟨c', f, q, hq, rfl⟩

theorem OnSchedule.record {n : AxisId} {s t : State} (h : OnSchedule n s t) (m : AxisId) (reason : SchedReason) :
    OnSchedule n s (schedRecord m reason t) := by
  obtain ⟨c', f', q, hq, rfl⟩ := h
  rw [schedRecord_eq]
  exact ⟨c', f', _, hq.offer _ _, rfl⟩

theorem OnSchedule.trans {n : AxisId} {s t u : State} (h : OnSchedule n s t) (h' : OnSchedule n t u) :
    OnSchedule n s u := by
  obtain ⟨c, f, q, hq, rfl⟩ := h
  obtain ⟨c', f', q', hq', rfl⟩ := h'
  exact ⟨c', f', q', hq.trans hq', by simp⟩

/-- The schedules of the other axes stay. -/
theorem OnSchedule.sched_ne {n : AxisId} {s t : State} (h : OnSchedule n s t) {m : AxisId} (hm : m ≠ n) :
    t.sched m = s.sched m := by
  obtain ⟨c, f, q, hq, rfl⟩ := h
  exact State.setSched_sched_ne s n c hm

theorem startSchedule_frame (n : AxisId) (s : State) : OnSchedule n s (startSchedule n s) := by
  unfold startSchedule
  split
  · exact (OnSchedule.refl n s).setSched _
  · exact .refl n s

theorem stopSchedule_frame (n : AxisId) (s : State) : OnSchedule n s (stopSchedule n s) :=
  (OnSchedule.refl n s).setSched _

theorem cancelCommit_frame (n : AxisId) (s : State) : OnSchedule n s (cancelCommit n s) :=
  ((OnSchedule.refl n s).setSched _).record n _

theorem holdSchedule_frame (n : AxisId) (s : State) : OnSchedule n s (holdSchedule n s) := by
  unfold holdSchedule
  split
  · exact ((OnSchedule.refl n s).setSched _).record n _
  · exact .refl n s

/-- Everything a departure notice can do (R59, R70). -/
theorem departure_frame (n : AxisId) (s : State) : OnSchedule n s (departure n s) := by
  have h := holdSchedule_frame n s
  unfold departure
  simp only
  split
  · exact h.trans (cancelCommit_frame n _)
  · exact h
  · exact h

/-- Everything a jump notice can do (R42). -/
theorem jump_frame (n : AxisId) (s : State) : OnSchedule n s (jump n s) := by
  unfold jump
  split
  · exact (OnSchedule.refl n s).setSched _
  · exact .refl n s

/-- Everything a commit can do before a completion (R67). -/
theorem installList_frame (n : AxisId) (run : Bool) (s : State) : OnSchedule n s (installList n run s) :=
  (((OnSchedule.refl n s).setFree _).setSched _).record n _

theorem completeIfEmpty_frame (n : AxisId) (s : State) : OnSchedule n s (completeIfEmpty n s).1 := by
  unfold completeIfEmpty
  split
  · exact (stopSchedule_frame n s).record n _
  · exact .refl n s

theorem takeCommit_frame (n : AxisId) (run : Bool) (s : State) : OnSchedule n s (takeCommit n run s).1 :=
  (installList_frame n run s).trans (completeIfEmpty_frame n _)

/-- Everything a route's action can do at a schedule (R57, R58, R65). -/
theorem takeSchedAct_frame (n : AxisId) (act : SchedAct) (s : State) : OnSchedule n s (takeSchedAct n act s).1 := by
  unfold takeSchedAct
  split
  · exact startSchedule_frame n s
  · exact stopSchedule_frame n s
  · unfold routeCommit
    split
    · exact takeCommit_frame n _ s
    · exact .refl n s
    · exact .refl n s

/-- Everything item 1 of the end of a count can do (R62, R66). -/
theorem reachCommit_frame (n : AxisId) (s : State) : OnSchedule n s (reachCommit n s) := by
  unfold reachCommit
  split
  · split
    · exact installList_frame n _ s
    · exact .refl n s
  · exact .refl n s
  · exact .refl n s

end Sys2Proof.Machine
end

