-- ==== Sys2Proof/Laws/Route.lean ====
section
/-! SUPPORT. The Route Table and the evaluation of a count, said once: an event that no route names changes nothing, and
whatever the single operations keep, a chain of source events and a whole count keep. -/

namespace Sys2Proof.Machine

/-! ### No route on the event -/

/-- Where no enabled route matches, no route changes (R106, R107). -/
theorem countRoutes_of_no_hit {routes : Vector Route 16} {e : EventSource} (h : ∀ r : RouteId, routes[r].hit e = false) :
    countRoutes routes e = routes := by
  unfold countRoutes
  ext i hi : 1
  have := h ⟨i, hi⟩
  simp only [Vector.getElem_ofFn]
  unfold Route.count
  rw [if_neg (by rw [this]; decide)]
  rfl

/-- And none acts. -/
theorem issuing_of_no_hit {routes : Vector Route 16} {e : EventSource} (h : ∀ r : RouteId, routes[r].hit e = false) :
    issuing routes e = [] := by
  unfold issuing
  refine List.filter_eq_nil_iff.mpr fun r _ => ?_
  unfold Route.acts
  rw [h r]
  simp

/-- An event that no route names leaves no action to issue and changes nothing else. -/
theorem takeEvent_of_no_route {e : SourceEvent} {w : Work} (h : NoRouteOn w.s e.source) :
    takeEvent e w = { w with issues := [] } := by
  unfold takeEvent
  rw [issuing_of_no_hit (fun r => h r), countRoutes_of_no_hit (fun r => h r)]
  rfl

/-- With nothing to issue and no waiting event there is nothing to do. -/
theorem routeSteps_idle {busy : Option AxisId} (k : Nat) {w : Work} (hi : w.issues = []) (he : w.events = []) :
    routeSteps busy k w = w := by
  induction k with
  | zero => rfl
  | succ k ih => simp only [routeSteps, routeStep, hi, he]; exact ih

theorem settle_idle {busy : Option AxisId} {w : Work} (hi : w.issues = []) (he : w.events = []) : settle busy w = w :=
  routeSteps_idle _ hi he

/-- The issue of an action leaves the other actions to issue as they are. -/
theorem issueRoute_issues (busy : Option AxisId) (i : Issue) (w : Work) (is : List Issue) :
    issueRoute busy i { w with issues := is } = { issueRoute busy i w with issues := is } := by
  unfold issueRoute
  simp only
  have reach : ∀ n act, reachSchedule busy i.event n act { w with issues := is } =
      { reachSchedule busy i.event n act w with issues := is } := by
    intro n act
    unfold reachSchedule
    split
    · split <;> rfl
    · rfl
  split
  · rfl
  · exact reach _ _
  · exact reach _ _
  · exact reach _ _
  · rfl
  · rfl

/-- The actions of one event are issued one after another (R106, step 4). -/
theorem routeSteps_issues (busy : Option AxisId) (is : List Issue) (k : Nat) (w : Work) :
    routeSteps busy (is.length + k) { w with issues := is } =
      routeSteps busy k { is.foldl (fun w i => issueRoute busy i w) w with issues := [] } := by
  induction is generalizing w with
  | nil => simp
  | cons i is ih =>
    rw [List.length_cons, show is.length + 1 + k = (is.length + k) + 1 by omega, routeSteps]
    have step : routeStep busy { w with issues := i :: is } = { issueRoute busy i w with issues := is } := by
      unfold routeStep
      exact issueRoute_issues busy i w is
    rw [step, ih]
    rfl

/-- One event that no route names is taken, and nothing else happens. -/
theorem settle_one {busy : Option AxisId} {w : Work} {e : SourceEvent} (hi : w.issues = []) (he : w.events = [e])
    (h : NoRouteOn w.s e.source) : settle busy w = { w with events := [] } := by
  have hb : w.bound = w.bound - 1 + 1 := by unfold Work.bound; rw [he, List.length_singleton]; omega
  unfold settle
  rw [hb, routeSteps]
  simp only [routeStep, hi, he]
  rw [takeEvent_of_no_route (by exact h), routeSteps_idle _ rfl rfl]

/-- A source event that no route names changes nothing (R106). -/
theorem sendEvent_of_no_route {s : State} {source : EventSource} (time : Ticks) (h : NoRouteOn s source) :
    sendEvent source time s = s := by
  unfold sendEvent sendEvents
  rw [settle_one (e := ⟨source, time⟩) rfl rfl h]
  rfl

/-- No source event changes nothing. -/
theorem sendEvents_nil (s : State) : sendEvents [] s = s := by
  unfold sendEvents
  rw [settle_idle rfl rfl]
  rfl

/-! ### Everything that waits is taken -/

/-- One axis fewer. -/
theorem countP_lt {p q : AxisId → Bool} (n : AxisId) (hp : p n = true) (hq : q n = false) (h : ∀ m, m ≠ n → q m = p m) :
    Config.allAxes.countP q + 1 = Config.allAxes.countP p := by
  have all : ∀ f : AxisId → Bool, Config.allAxes.countP f =
      (if f 0 then 1 else 0) + (if f 1 then 1 else 0) + (if f 2 then 1 else 0) + (if f 3 then 1 else 0) := by
    intro f; simp only [Config.allAxes, List.countP_cons, List.countP_nil]; omega
  rw [all, all]
  match n, hp, hq, h with
  | 0, hp, hq, h => rw [hp, hq, h 1 (by decide), h 2 (by decide), h 3 (by decide)]; simp; omega
  | 1, hp, hq, h => rw [hp, hq, h 0 (by decide), h 2 (by decide), h 3 (by decide)]; simp; omega
  | 2, hp, hq, h => rw [hp, hq, h 0 (by decide), h 1 (by decide), h 3 (by decide)]; simp; omega
  | 3, hp, hq, h => rw [hp, hq, h 0 (by decide), h 1 (by decide), h 2 (by decide)]; simp

/-- A change that leaves the commit of an axis as it is leaves the number of AT_TRIGGER commits. -/
theorem triggerCommits_setSched (n : AxisId) (c : Schedule) (s : State) (h : c.commit = (s.sched n).commit) :
    triggerCommits (s.setSched n c) = triggerCommits s := by
  unfold triggerCommits
  congr 1
  funext m
  by_cases hm : m = n
  · subst hm; simp [Schedule.awaitsTrigger, h]
  · rw [State.setSched_sched_ne _ _ _ hm]

/-- A commit that takes effect is pending no more, and the other schedules stay. -/
theorem takeCommit_commit (n : AxisId) (run : Bool) (s : State) :
    ((takeCommit n run s).1.sched n).commit = none ∧ (takeCommit n run s).2.length ≤ 1 ∧
      ∀ m, m ≠ n → (takeCommit n run s).1.sched m = s.sched m := by
  refine ⟨?_, ?_, fun m hm => (takeCommit_frame n run s).sched_ne hm⟩
  · unfold takeCommit completeIfEmpty installList stopSchedule
    simp only [schedRecord_eq]
    split <;> simp [State.sched, State.setSched]
  · unfold takeCommit completeIfEmpty
    split <;> simp

/-- A schedule that sends a source event has used up its pending AT_TRIGGER commit (R61, R65). -/
theorem takeSchedAct_commits (n : AxisId) (act : SchedAct) (s : State) :
    (takeSchedAct n act s).2.length + triggerCommits (takeSchedAct n act s).1 ≤ triggerCommits s := by
  match act with
  | .start =>
    simp only [takeSchedAct, startSchedule, List.length_nil, Nat.zero_add]
    split
    · exact (triggerCommits_setSched n _ s (by rfl)).le
    · exact le_refl _
  | .stop => simp only [takeSchedAct, stopSchedule, List.length_nil, Nat.zero_add, triggerCommits_setSched, le_refl]
  | .commit =>
    simp only [takeSchedAct, routeCommit]
    split
    · rename_i run hc
      obtain ⟨h1, h2, h3⟩ := takeCommit_commit n run s
      have := countP_lt (p := fun m => (s.sched m).awaitsTrigger)
        (q := fun m => ((takeCommit n run s).1.sched m).awaitsTrigger) n
        (by simp [Schedule.awaitsTrigger, hc]) (by simp [Schedule.awaitsTrigger, h1]) (fun m hm => by simp only [h3 m hm])
      unfold triggerCommits
      omega
    · exact (Nat.zero_add _).le
    · exact (Nat.zero_add _).le

/-- A step of the Route Table brings it nearer to having nothing left. -/
theorem routeStep_bound (busy : Option AxisId) (w : Work) (h : w.issues ≠ [] ∨ w.events ≠ []) :
    (routeStep busy w).bound < w.bound := by
  unfold routeStep
  split
  · rename_i i rest hi
    have reach : ∀ n act, (reachSchedule busy i.event n act { w with issues := rest }).bound < w.bound := by
      intro n act
      unfold reachSchedule Work.bound
      simp only [hi]
      split
      · split <;> simp
      · have := takeSchedAct_commits n act w.s
        simp only [List.length_append, List.length_cons]
        omega
    unfold issueRoute
    simp only
    split
    · simp [Work.bound, hi, triggerCommits, State.produce]
    · exact reach _ _
    · exact reach _ _
    · exact reach _ _
    · rename_i l act _
      obtain ⟨x, q, -, he⟩ := issueAction_frame l act w.s
      rw [he]
      simp [Work.bound, hi, triggerCommits, State.sched]
    · simp [Work.bound, hi]
  · rename_i e rest hi he
    have : (issuing w.s.routes e.source).length ≤ 16 := List.length_filter_le _ _
    have ht : triggerCommits { w.s with routes := countRoutes w.s.routes e.source } = triggerCommits w.s := rfl
    simp only [Work.bound, takeEvent, hi, he, List.length_map, List.length_cons, List.length_nil, ht]
    omega
  · simp_all

/-- Enough steps leave no waiting event and no action to issue. -/
theorem routeSteps_done (busy : Option AxisId) (k : Nat) (w : Work) (h : w.bound ≤ k) :
    (routeSteps busy k w).issues = [] ∧ (routeSteps busy k w).events = [] := by
  induction k generalizing w with
  | zero =>
    unfold Work.bound at h
    exact ⟨List.length_eq_zero_iff.mp (show w.issues.length = 0 by omega),
      List.length_eq_zero_iff.mp (show w.events.length = 0 by omega)⟩
  | succ k ih =>
    by_cases hw : w.issues = [] ∧ w.events = []
    · rw [routeSteps_idle _ hw.1 hw.2]; exact hw
    · have := routeStep_bound busy w (by tauto)
      exact ih _ (by omega)

/-- The Route Table leaves no event and no action behind (R106). -/
theorem settle_done (busy : Option AxisId) (w : Work) : (settle busy w).issues = [] ∧ (settle busy w).events = [] :=
  routeSteps_done busy _ w (le_refl _)

/-! ### What a chain of source events keeps -/

/-- What the operations of a route's action keep, for a schedule that may be busy. -/
structure KeptByRoutes (busy : Option AxisId) (P : State → Prop) : Prop where
  routes : ∀ s rs, P s → P { s with routes := rs }
  record : ∀ s i, P s → P (s.produce i)
  output : ∀ s l act, P s → P (issueAction l act s)
  schedule : ∀ s n act, busy ≠ some n → P s → P (takeSchedAct n act s).1

theorem KeptByRoutes.reachSchedule {busy : Option AxisId} {P : State → Prop} (k : KeptByRoutes busy P) (e : SourceEvent)
    (n : AxisId) (act : SchedAct) (w : Work) (h : P w.s) : P (reachSchedule busy e n act w).s := by
  unfold Machine.reachSchedule
  split
  · split <;> exact h
  · rename_i hb
    exact k.schedule _ _ _ hb h

theorem KeptByRoutes.issueRoute {busy : Option AxisId} {P : State → Prop} (k : KeptByRoutes busy P) (i : Issue) (w : Work)
    (h : P w.s) : P (issueRoute busy i w).s := by
  unfold Machine.issueRoute
  split
  · exact k.record _ _ h
  · exact k.reachSchedule _ _ _ _ h
  · exact k.reachSchedule _ _ _ _ h
  · exact k.reachSchedule _ _ _ _ h
  · exact k.output _ _ _ h
  · exact h

theorem KeptByRoutes.routeStep {busy : Option AxisId} {P : State → Prop} (k : KeptByRoutes busy P) (w : Work) (h : P w.s) :
    P (routeStep busy w).s := by
  unfold Machine.routeStep
  split
  · exact k.issueRoute _ _ h
  · exact k.routes _ _ h
  · exact h

/-- The steps of the Route Table keep it. -/
theorem KeptByRoutes.routeSteps {busy : Option AxisId} {P : State → Prop} (k : KeptByRoutes busy P) (steps : Nat) (w : Work)
    (h : P w.s) : P (routeSteps busy steps w).s := by
  induction steps generalizing w with
  | zero => exact h
  | succ steps ih => exact ih _ (k.routeStep _ h)

theorem KeptByRoutes.settle {busy : Option AxisId} {P : State → Prop} (k : KeptByRoutes busy P) (w : Work) (h : P w.s) :
    P (settle busy w).s := k.routeSteps _ w h

theorem KeptByRoutes.sendEvents {P : State → Prop} (k : KeptByRoutes none P) (es : List SourceEvent) (s : State)
    (h : P s) : P (sendEvents es s) := k.settle _ h

/-! ### What a count keeps -/

/-- What the operations of a firing keep, beside those of the routes. -/
structure KeptByFiring (n : AxisId) (P : State → Prop) : Prop extends KeptByRoutes (some n) P where
  finish : ∀ s e, P s → P (finishFiring n e s)

theorem KeptByFiring.fireEntry {n : AxisId} {P : State → Prop} (k : KeptByFiring n P) (dir : Dir) (e : Entry) (w : Work)
    (h : P w.s) : P (fireEntry n dir e w).s := by
  have acted : P (match e.action with | some (l, act) => issueAction l act w.s | none => w.s) := by
    split
    · exact k.output _ _ _ h
    · exact h
  unfold Machine.fireEntry fireActions
  refine k.finish _ _ ?_
  simp only [State.produceIf]
  split
  · exact k.record _ _ acted
  · exact acted

/-- The firings of a count keep it, whatever order their marks are taken in. -/
theorem KeptByFiring.fireAll {n : AxisId} {P : State → Prop} (k : KeptByFiring n P) (dir : Dir) (es : List Entry)
    (takes : List Nat) (w : Work) (h : P w.s) : P (fireAll n dir es takes w).s := by
  induction es generalizing takes w with
  | nil => exact k.settle _ h
  | cons e es ih =>
    cases takes with
    | nil => exact ih _ _ (k.settle _ (k.fireEntry dir e w h))
    | cons j js => exact ih _ _ (k.routeSteps _ _ (k.fireEntry dir e w h))

/-- The actions that waited for the schedule keep it. -/
theorem takeWaiting_keeps {busy : Option AxisId} {n : AxisId} {P : State → Prop} (k : KeptByRoutes busy P)
    (act : ∀ s a, P s → P (takeSchedAct n a s).1) (as : List SchedAct) (w : Work) (h : P w.s) :
    P (as.foldl (takeWaiting busy n) w).s := by
  induction as generalizing w with
  | nil => exact h
  | cons a as ih => exact ih _ (k.settle _ (act _ _ h))

/-- The end of a count keeps it after its first two items. -/
theorem endOfCount_keeps {n : AxisId} {P : State → Prop} (k : KeptByRoutes none P) (w : Work)
    (h : P (completeIfEmpty n (reachCommit n w.s)).1) : P (endOfCount n w) := by
  have kb : KeptByRoutes (some n) P := ⟨k.routes, k.record, k.output, fun s m a _ => k.schedule s m a (by simp)⟩
  have act : ∀ s a, P s → P (takeSchedAct n a s).1 := fun s a => k.schedule s n a (by simp)
  unfold endOfCount completeAtCount
  exact takeWaiting_keeps k act _ _ (takeWaiting_keeps kb act _ _ (kb.settle _ h))

/-- A whole count keeps what each of its operations keeps. -/
theorem countNotice_keeps {n : AxisId} {P : State → Prop} (k : KeptByRoutes none P)
    (finish : ∀ s e, P s → P (finishFiring n e s)) (rearm : ∀ s, P s → P (rearmSchedule n s))
    (reach : ∀ s, P s → P (reachCommit n s)) (complete : ∀ s, P s → P (completeIfEmpty n s).1)
    (dir : Dir) (takes : List Nat) (s : State) (h : P s) : P (countNotice n dir takes s) := by
  have kb : KeptByFiring n P :=
    ⟨⟨k.routes, k.record, k.output, fun s m a _ => k.schedule s m a (by simp)⟩, finish⟩
  unfold countNotice
  split
  · exact endOfCount_keeps k _ (complete _ (reach _ (rearm _ (kb.fireAll dir _ _ _ h))))
  · exact reach _ h

/-! ### Frames -/

/-- What the Route Table and the schedules can change: lines, schedules, the free count, routes, and the queue, which
only grows. -/
def RoutesChange (s t : State) : Prop :=
  ∃ lines scheds free routes q, Grown s.queue q ∧
    t = { s with lines := lines, scheds := scheds, free := free, routes := routes, queue := q }

theorem RoutesChange.refl (s : State) : RoutesChange s s := ⟨_, _, _, _, _, Grown.refl _, rfl⟩

theorem RoutesChange.trans {s t u : State} (h : RoutesChange s t) (h' : RoutesChange t u) : RoutesChange s u := by
  obtain ⟨a, b, c, d, e, hq, rfl⟩ := h
  obtain ⟨a', b', c', d', e', hq', rfl⟩ := h'
  exact ⟨a', b', c', d', e', hq.trans hq', rfl⟩

theorem OnSchedule.routesChange {n : AxisId} {s t : State} (h : OnSchedule n s t) : RoutesChange s t := by
  obtain ⟨c, f, q, hq, rfl⟩ := h
  exact ⟨_, _, _, _, _, hq, rfl⟩

theorem RoutesChange.kept (s : State) (busy : Option AxisId) : KeptByRoutes busy (RoutesChange s) where
  routes := fun t rs h => h.trans ⟨_, _, _, rs, _, Grown.refl _, rfl⟩
  record := fun t i h => h.trans ⟨_, _, _, _, _, (Grown.refl _).receive i, rfl⟩
  output := fun t l act h => by
    obtain ⟨x, q, hq, he⟩ := issueAction_frame l act t
    exact h.trans ⟨_, _, _, _, q, hq, he⟩
  schedule := fun t n act _ h => h.trans (takeSchedAct_frame n act t).routesChange

/-- Everything a chain of source events can change (R106). -/
theorem sendEvents_frame (es : List SourceEvent) (s : State) : RoutesChange s (sendEvents es s) :=
  (RoutesChange.kept s none).sendEvents es s (.refl s)

theorem sendEvent_frame (source : EventSource) (time : Ticks) (s : State) : RoutesChange s (sendEvent source time s) :=
  sendEvents_frame _ s

/-- Everything a count can change beyond its axis (R46). -/
theorem countNotice_frame (n : AxisId) (dir : Dir) (takes : List Nat) (s : State) :
    RoutesChange s (countNotice n dir takes s) :=
  countNotice_keeps (RoutesChange.kept s none)
    (fun t _ h => h.trans (((OnSchedule.refl n t).setFree _).setSched _).routesChange)
    (fun t h => h.trans ((OnSchedule.refl n t).setSched _).routesChange)
    (fun t h => h.trans (reachCommit_frame n t).routesChange)
    (fun t h => h.trans (completeIfEmpty_frame n t).routesChange) dir takes s (.refl s)

end Sys2Proof.Machine
end

