-- ==== Sys2Proof/Laws/Axis.lean ====
section
/-! SUPPORT. The events of the axes and the trigger inputs, said once: what they keep when their parts keep it, and what
they can change at all. -/

namespace Sys2Proof.Machine

/-- An AXIS record changes the queue alone (R10). -/
theorem axisRecord_eq (n : AxisId) (reason : AxisReason) (s : State) :
    axisRecord n reason s = { s with
      queue := s.queue.offer s.queue.enables.axis
        ⟨.axis (s.axis n).ref reason (s.axis n).errors, s.timebase.count, [(s.axis n).posWord n]⟩ } :=
  State.produceIf_eq s _ _

/-- What the parts of an event of the axes `on` keep. -/
structure KeptByAxes (on : AxisId → Prop) (P : State → Prop) : Prop extends KeptByRoutes none P where
  axis : ∀ s n x, on n → P s → P (s.setAxis n x)
  advance : ∀ s d, P s → P (s.advance d)
  wires : ∀ s w, (s.wires.Rising → w.Rising) → P s → P (s.setWires w)
  finish : ∀ s n e, P s → P (finishFiring n e s)
  rearm : ∀ s n, P s → P (rearmSchedule n s)
  reach : ∀ s n, P s → P (reachCommit n s)
  complete : ∀ s n, P s → P (completeIfEmpty n s).1
  depart : ∀ s n, P s → P (departure n s)
  jump : ∀ s n, P s → P (jump n s)

variable {on : AxisId → Prop} {P : State → Prop}

theorem KeptByAxes.recordIf (k : KeptByAxes on P) (s : State) (e : Bool) (i : Item) (h : P s) :
    P (s.produceIf e i) := by
  unfold State.produceIf
  split
  · exact k.record _ _ h
  · exact h

theorem KeptByAxes.enterLost (k : KeptByAxes on P) {n : AxisId} (hn : on n)
    (reason : LostReason) (s : State) (h : P s) : P (enterLost n reason s) := by
  have h1 := k.recordIf _ (s.setAxis n { s.axis n with ref := .lost reason }).queue.enables.axis
    ⟨.axis ((s.setAxis n { s.axis n with ref := .lost reason }).axis n).ref (.lost reason)
      ((s.setAxis n { s.axis n with ref := .lost reason }).axis n).errors,
      (s.setAxis n { s.axis n with ref := .lost reason }).timebase.count,
      [((s.setAxis n { s.axis n with ref := .lost reason }).axis n).posWord n]⟩
    (k.axis s n { s.axis n with ref := .lost reason } hn h)
  unfold Machine.enterLost
  refine k.sendEvents _ _ ?_
  unfold departIf
  split
  · exact k.depart _ _ h1
  · exact h1

theorem KeptByAxes.takePair (k : KeptByAxes on P) {n : AxisId} (hn : on n) {c : PairChange} {s : State}
    (hc : s.nextPair n = some c) (h : P s) : P (s.takePair n c) :=
  k.axis _ _ _ hn (k.wires _ _ (State.nextPair_rising hc) (k.advance _ _ h))

theorem KeptByAxes.takeIndex (k : KeptByAxes on P) {n : AxisId} (hn : on n) {c : LineChange} {s : State}
    (hc : s.nextIndex n = some c) (h : P s) : P (s.takeIndex n c) :=
  k.axis _ _ _ hn (k.wires _ _ (State.nextIndex_rising hc) (k.advance _ _ h))

theorem KeptByAxes.applyCount (k : KeptByAxes on P) {n : AxisId} (hn : on n) (d : Dir) (takes : List Nat) (s : State)
    (h : P s) : P (applyCount n d takes s) := by
  unfold Machine.applyCount
  split
  · exact countNotice_keeps k.toKeptByRoutes (fun s e => k.finish s n e) (fun s => k.rearm s n)
      (fun s => k.reach s n) (fun s => k.complete s n) _ _ _ (k.axis _ _ _ hn h)
  · split
    · exact h
    · exact k.enterLost hn _ _ h

theorem KeptByAxes.countEvent (k : KeptByAxes on P) {n : AxisId} (hn : on n) (takes : List Nat) (s : State) (h : P s) :
    P (countEvent n takes s) := by
  unfold Machine.countEvent
  split
  · exact h
  · rename_i hc
    split
    · exact k.applyCount hn _ _ _ (k.takePair hn hc h)
    · exact h

theorem KeptByAxes.countError (k : KeptByAxes on P) {n : AxisId} (hn : on n) (s : State) (h : P s) :
    P (countError n s) := by
  unfold Machine.countError
  simp only
  split
  · exact k.enterLost hn _ _ (k.axis _ _ _ hn h)
  · exact k.axis _ _ _ hn h

theorem KeptByAxes.quadratureError (k : KeptByAxes on P) {n : AxisId} (hn : on n) (s : State) (h : P s) :
    P (quadratureError n s) := by
  unfold Machine.quadratureError
  split
  · exact h
  · rename_i hc
    split
    · exact k.countError hn _ (k.takePair hn hc h)
    · exact h

theorem KeptByAxes.decoderChange (k : KeptByAxes on P) {n : AxisId} (hn : on n) (lines : DecoderLines) (s : State)
    (h : P s) : P (decoderChange n lines s) := by
  cases lines
  · show P (pairChange n s)
    unfold pairChange
    split
    · exact h
    · rename_i hc
      split
      · exact h
      · exact k.takePair hn hc h
  · show P (indexFall n s)
    unfold indexFall
    split
    · rename_i hc
      exact k.takeIndex hn hc h
    · exact h
    · exact h

theorem KeptByAxes.completeHoming (k : KeptByAxes on P) {n : AxisId} (hn : on n)
    (s : State) (h : P s) : P (completeHoming n s) := by
  unfold Machine.completeHoming axisRecord
  exact k.jump _ _ (k.recordIf _ _ _ (k.axis _ _ _ hn h))

theorem KeptByAxes.homingIndex (k : KeptByAxes on P) {n : AxisId} (hn : on n)
    (s : State) (h : P s) : P (homingIndex n s) := by
  unfold Machine.homingIndex
  simp only
  split
  · split
    · exact k.completeHoming hn _ h
    · exact h
  · exact h
  · exact h
  · exact h
  · exact h

theorem KeptByAxes.homingEdge (k : KeptByAxes on P) (i : TriggerId)
    (s : State) (n : AxisId) (hn : on n) (h : P s) : P (homingEdge i s n) := by
  unfold Machine.homingEdge
  simp only
  split
  · split
    · exact k.axis _ _ _ hn h
    · exact h
  · split
    · exact k.completeHoming hn _ h
    · exact h
  · exact h

theorem KeptByAxes.checkArrival (k : KeptByAxes on P) {n : AxisId} (hn : on n) (slip : Int) (s : State) (h : P s) :
    P (checkArrival n slip s) := by
  unfold Machine.checkArrival
  simp only
  split
  · exact k.enterLost hn _ _ h
  · split
    · exact k.jump _ _ (k.axis _ _ _ hn h)
    · exact h

theorem KeptByAxes.arrive (k : KeptByAxes on P) {n : AxisId} (hn : on n) (s : State) (h : P s) : P (arrive n s) := by
  have h1 : ∀ slip time, P (indexRecord n (s.axis n) slip time (noteIndex n s)) := fun slip time =>
    k.recordIf _ _ _ (k.axis _ _ _ hn h)
  unfold Machine.arrive
  simp only
  refine k.sendEvents _ _ (k.homingIndex hn _ ?_)
  split
  · exact k.checkArrival hn _ _ (h1 _ _)
  · exact h1 _ _

theorem KeptByAxes.indexArrival (k : KeptByAxes on P) {n : AxisId} (hn : on n) (s : State) (h : P s) :
    P (indexArrival n s) := by
  unfold Machine.indexArrival
  split
  · rename_i hc
    exact k.arrive hn _ (k.takeIndex hn hc h)
  · exact h
  · exact h

theorem KeptByAxes.takeEdge (k : KeptByAxes on P) (hn : ∀ n, on n)
    (trigger : ∀ s i t, P s → P (s.setTrigger i t)) (i : TriggerId) (before after : List AxisId) (s : State) (h : P s) :
    P (takeEdge i before after s) := by
  have fold : ∀ (ns : List AxisId) (s : State), P s → P (ns.foldl (Machine.homingEdge i) s) := by
    intro ns
    induction ns with
    | nil => exact fun s h => h
    | cons n ns ih => exact fun s h => ih _ (k.homingEdge i s n (hn n) h)
  unfold Machine.takeEdge
  simp only
  split
  · split
    · exact trigger _ _ _ h
    · exact fold _ _ (k.sendEvents _ _ (fold _ _ (trigger _ _ _ h)))
  · exact trigger _ _ _ h

theorem KeptByAxes.triggerEdge (k : KeptByAxes on P) (hn : ∀ n, on n)
    (trigger : ∀ s i t, P s → P (s.setTrigger i t)) (i : TriggerId) (before after : List AxisId) (s : State) (h : P s) :
    P (triggerEdge i before after s) := by
  unfold Machine.triggerEdge
  split
  · rename_i hc
    exact k.takeEdge hn trigger _ _ _ _
      (k.wires _ _ (fun hw => hw.setTrigger _ (heldEdge_left (hw.2.1 i) hc)) (k.advance _ _ h))
  · exact h

/-! ### Frames -/

/-- What the events of the axes and inputs can change: time runs on, lines and their units change, and what the Route
Table can. -/
def EventsChange (s t : State) : Prop :=
  ∃ d wires axes triggers, RoutesChange { s.advance d with wires := wires, axes := axes, triggers := triggers } t

theorem State.advance_zero (s : State) : s.advance 0 = s := by
  unfold State.advance
  split <;> simp

theorem EventsChange.refl (s : State) : EventsChange s s :=
  ⟨0, s.wires, s.axes, s.triggers, by rw [State.advance_zero]; exact .refl s⟩

theorem EventsChange.routes {s t u : State} (h : EventsChange s t) (h' : RoutesChange t u) : EventsChange s u := by
  obtain ⟨d, w, a, b, hr⟩ := h
  exact ⟨d, w, a, b, hr.trans h'⟩

theorem EventsChange.units {s t : State} (h : EventsChange s t) (axes : Vector Axis 4) (triggers : Vector Trigger 6) :
    EventsChange s { t with axes := axes, triggers := triggers } := by
  obtain ⟨d, w, a, b, l, sc, f, r, q, hq, rfl⟩ := h
  exact ⟨d, w, axes, triggers, l, sc, f, r, q, hq, rfl⟩

theorem EventsChange.lineChange {s t : State} (h : EventsChange s t) (wires : Wires) : EventsChange s (t.setWires wires) := by
  obtain ⟨d, w, a, b, l, sc, f, r, q, hq, rfl⟩ := h
  exact ⟨d, wires, a, b, l, sc, f, r, q, hq, rfl⟩

theorem EventsChange.time {s t : State} (h : EventsChange s t) (e : Nat) : EventsChange s (t.advance e) := by
  obtain ⟨d, w, a, b, l, sc, f, r, q, hq, rfl⟩ := h
  refine ⟨d + e, w, a, b, l, sc, f, r, q, hq, ?_⟩
  rw [← State.advance_advance]
  rfl

theorem EventsChange.kept (s : State) : KeptByAxes (fun _ => True) (EventsChange s) where
  routes := fun t rs h => h.routes ⟨_, _, _, rs, _, Grown.refl _, rfl⟩
  record := fun t i h => h.routes ⟨_, _, _, _, _, (Grown.refl _).receive i, rfl⟩
  output := fun t l act h => by
    obtain ⟨x, q, hq, he⟩ := issueAction_frame l act t
    exact h.routes ⟨_, _, _, _, q, hq, he⟩
  schedule := fun t n act _ h => h.routes (takeSchedAct_frame n act t).routesChange
  axis := fun t n x _ h => h.units _ t.triggers
  advance := fun t d h => h.time d
  wires := fun t w _ h => h.lineChange w
  finish := fun t n _ h => h.routes (((OnSchedule.refl n t).setFree _).setSched _).routesChange
  rearm := fun t n h => h.routes ((OnSchedule.refl n t).setSched _).routesChange
  reach := fun t n h => h.routes (reachCommit_frame n t).routesChange
  complete := fun t n h => h.routes (completeIfEmpty_frame n t).routesChange
  depart := fun t n h => h.routes (departure_frame n t).routesChange
  jump := fun t n h => h.routes (jump_frame n t).routesChange

end Sys2Proof.Machine
end

