-- ==== Sys2Proof/Laws/Dispatch.lean ====
section
/-! SUPPORT. The dispatcher, said once: what taking a request gives, whether it is carried out, refused by a dispatch
check, or answered from the reply cache. -/

namespace Sys2Proof.Machine

/-- The state with the taken request out of the waiting ones. -/
def State.took (s : State) (rest : List Request) : State := s.setLink { s.link with waiting := rest }

/-- A request that is taken afresh meets no cache entry (R185). -/
theorem Takes.cachedFor_none {s : State} {r : Request} {rest : List Request} (h : Takes s r rest) :
    cachedFor r s.link.cache = none := by
  unfold cachedFor
  rcases h.fresh with h | h
  · simp [h]
  · split
    · exact List.find?_eq_none.mpr fun e he => by simpa using h e he
    · rfl

/-- A request taken afresh is carried out or refused, and answered (R174). -/
theorem takeRequest_fresh {s : State} {r : Request} {rest : List Request} (h : Takes s r rest)
    {accepts : Byte → Bool} (ha : accepts r.op = true) (carry : Request → State → State × Answer) :
    takeRequest accepts carry s = answerRequest r (carry r (s.took rest)) := by
  unfold takeRequest
  rw [h.running, h.noHold, h.oldest]
  simp only [ha, if_true, h.cachedFor_none, State.took]

/-- A request that waits behind no hold and is a retry of a cached one is answered from the cache (R185). -/
theorem takeRequest_retry {s : State} {r : Request} {rest : List Request} {e : CacheEntry}
    (hp : s.phase = .running) (hh : s.link.hold = .none) (hw : s.link.waiting = r :: rest)
    {accepts : Byte → Bool} (ha : accepts r.op = true) (carry : Request → State → State × Answer)
    (he : cachedFor r s.link.cache = some e) :
    takeRequest accepts carry s = answerRetry r e (s.took rest) := by
  unfold takeRequest
  rw [hp, hh, hw]
  simp only [ha, if_true, he, State.took]

/-- Where there is no request to take, nothing changes. -/
theorem takeRequest_idle {s : State} {accepts : Byte → Bool} {carry : Request → State → State × Answer}
    (h : s.phase ≠ .running ∨ s.link.hold ≠ .none ∨ s.link.waiting = []) : takeRequest accepts carry s = s := by
  unfold takeRequest
  split
  · rename_i hp hh hw
    simp [hp, hh, hw] at h
  · rfl

/-- Everything that taking a request can do: nothing, an answer from the cache, or an answer after it is carried out. -/
theorem takeRequest_cases (accepts : Byte → Bool) (carry : Request → State → State × Answer) (s : State) :
    takeRequest accepts carry s = s ∨
    ∃ r rest, s.phase = .running ∧ s.link.hold = .none ∧ s.link.waiting = r :: rest ∧ accepts r.op = true ∧
      ((∃ e, cachedFor r s.link.cache = some e ∧ takeRequest accepts carry s = answerRetry r e (s.took rest)) ∨
        (cachedFor r s.link.cache = none ∧
          takeRequest accepts carry s = answerRequest r (carry r (s.took rest)))) := by
  unfold takeRequest
  split
  · rename_i r rest hp hh hw
    split
    · rename_i ha
      refine .inr ⟨r, rest, hp, hh, hw, ha, ?_⟩
      cases hc : cachedFor r s.link.cache with
      | some e => exact .inl ⟨e, rfl, rfl⟩
      | none => exact .inr ⟨rfl, rfl⟩
    · exact .inl rfl
  · exact .inl rfl

/-- An answer that orders nothing beyond its own sending, to a request whose reply is stored (R174, R176, R184). -/
theorem answerRequest_of {r : Request} (hu : uncached r.op = false) (t : State) (status : Status)
    (payload : List Byte) :
    answerRequest r (t, .of status payload) = t.replied r t.link.waiting status payload := by
  unfold answerRequest storeReply queueReply State.replied
  simp only [hu, Bool.not_false, Bool.and_true, Answer.of, Answer.reply, State.setLink, remember, cacheAfter, replyTo,
    Config.cacheCapacity]
  split <;> rfl

/-- A request that passes every check is carried out, and answered (R174, R175). -/
theorem dispatch_carried {α : Type} {op : RequestOp} {read : State → List Byte → Option α}
    {carry : α → State → State × Answer} {s t : State} {r : Request} {rest : List Request} {p : α}
    {status : Status} {payload : List Byte}
    (h : Takes s r rest) (hop : r.op = op.code) (ha : op.whileDetached = true ∨ Attached s)
    (hl : op.lengthOk r.payload = true) (hr : read (s.took rest) r.payload = some p)
    (hc : carry p (s.took rest) = (t, .of status payload)) (hu : uncached op.code = false) :
    dispatch op read carry s = t.replied r t.link.waiting status payload := by
  unfold dispatch
  rw [takeRequest_fresh h (by simp [hop])]
  have : carryChecked op read carry r (s.took rest) = (t, .of status payload) := by
    unfold carryChecked
    have h1 : (!op.whileDetached && (s.took rest).link.session.isNone) = false := by
      rcases ha with ha | ha
      · simp [ha]
      · have : s.link.session.isNone = false := by
          unfold Attached at ha; cases hs : s.link.session <;> simp_all
        simp [State.took, this]
    simp only [h1, hl, hr, hc, Bool.not_true, Bool.false_eq_true, if_false]
  rw [this, answerRequest_of (by rw [hop]; exact hu)]

/-- A request whose parameters are out of range is refused with BAD_PARAM (R175, R203). -/
theorem dispatch_badParam {α : Type} {op : RequestOp} {read : State → List Byte → Option α}
    {carry : α → State → State × Answer} {s : State} {r : Request} {rest : List Request}
    (h : Takes s r rest) (hop : r.op = op.code) (ha : op.whileDetached = true ∨ Attached s)
    (hl : op.lengthOk r.payload = true) (hr : read (s.took rest) r.payload = none)
    (hu : uncached op.code = false) :
    dispatch op read carry s = s.replied r rest .badParam [] := by
  unfold dispatch
  rw [takeRequest_fresh h (by simp [hop])]
  have : carryChecked op read carry r (s.took rest) = (s.took rest, .of .badParam []) := by
    unfold carryChecked
    have h1 : (!op.whileDetached && (s.took rest).link.session.isNone) = false := by
      rcases ha with ha | ha
      · simp [ha]
      · have : s.link.session.isNone = false := by
          unfold Attached at ha; cases hs : s.link.session <;> simp_all
        simp [State.took, this]
    simp only [h1, hl, hr, Bool.not_true, Bool.false_eq_true, if_false, Answer.bare, Answer.of]
  rw [this, answerRequest_of (by rw [hop]; exact hu)]
  rfl

/-- A request with a payload of the wrong length is refused with BAD_LENGTH (R175, R196). -/
theorem dispatch_badLength {α : Type} {op : RequestOp} {read : State → List Byte → Option α}
    {carry : α → State → State × Answer} {s : State} {r : Request} {rest : List Request}
    (h : Takes s r rest) (hop : r.op = op.code) (ha : op.whileDetached = true ∨ Attached s)
    (hl : op.lengthOk r.payload = false) (hu : uncached op.code = false) :
    dispatch op read carry s = s.replied r rest .badLength [] := by
  unfold dispatch
  rw [takeRequest_fresh h (by simp [hop])]
  have : carryChecked op read carry r (s.took rest) = (s.took rest, .of .badLength []) := by
    unfold carryChecked
    have h1 : (!op.whileDetached && (s.took rest).link.session.isNone) = false := by
      rcases ha with ha | ha
      · simp [ha]
      · have : s.link.session.isNone = false := by
          unfold Attached at ha; cases hs : s.link.session <;> simp_all
        simp [State.took, this]
    simp only [h1, hl, Bool.not_false, if_true, Bool.false_eq_true, if_false, Answer.bare, Answer.of]
  rw [this, answerRequest_of (by rw [hop]; exact hu)]
  rfl

/-- A request that needs a session is refused with NOT_ATTACHED while DETACHED (R175). -/
theorem dispatch_notAttached {α : Type} {op : RequestOp} {read : State → List Byte → Option α}
    {carry : α → State → State × Answer} {s : State} {r : Request} {rest : List Request}
    (h : Takes s r rest) (hop : r.op = op.code) (ha : op.whileDetached = false) (hs : s.link.session = none) :
    dispatch op read carry s = s.replied r rest .notAttached [] := by
  unfold dispatch
  rw [takeRequest_fresh h (by simp [hop])]
  have : carryChecked op read carry r (s.took rest) = (s.took rest, .of .notAttached []) := by
    unfold carryChecked
    simp [ha, hs, State.took, Answer.bare, Answer.of]
  rw [this]
  unfold answerRequest storeReply queueReply State.replied
  simp [hs, State.took, Answer.of, Answer.reply, replyTo, State.setLink]

end Sys2Proof.Machine
end

