-- ==== Sys2Proof/Laws/Link.lean ====
section
/-! SUPPORT. What taking a request keeps, said once for every request, and what the link's own events change. -/

namespace Sys2Proof.Machine

/-- What a request keeps: whatever its own effect keeps, the dispatcher's bookkeeping leaving the session as it is. -/
theorem takeRequest_keeps {P : State → Prop} {accepts : Byte → Bool} {carry : Request → State → State × Answer}
    (link : ∀ s l, l.session = s.link.session → P s → P (s.setLink l))
    (effect : ∀ r t, t.phase = .running → P t → P (carry r t).1) (s : State) (h : P s) :
    P (takeRequest accepts carry s) := by
  have store : ∀ r reply t, P t → P (storeReply r reply t) := by
    intro r reply t ht
    unfold storeReply
    split
    · exact link _ _ rfl ht
    · exact ht
  rcases takeRequest_cases accepts carry s with he | ⟨r, rest, hp, -, -, -, ⟨e, -, he⟩ | ⟨-, he⟩⟩
  · rw [he]; exact h
  · rw [he]
    have ht : P (s.took rest) := link _ _ rfl h
    unfold answerRetry queueReply
    split
    · exact link _ _ rfl (link _ _ rfl ht)
    · exact link _ _ rfl ht
  · rw [he]
    have ht : P (s.took rest) := link _ _ rfl h
    unfold answerRequest queueReply
    exact store _ _ _ (link _ _ rfl (effect r _ hp ht))

/-- The same for a request of the table: its own effect is looked at only where the dispatch checks pass. -/
theorem dispatch_keeps {α : Type} {P : State → Prop} {op : RequestOp} {read : State → List Byte → Option α}
    {carry : α → State → State × Answer}
    (link : ∀ s l, l.session = s.link.session → P s → P (s.setLink l))
    (effect : ∀ p t bytes, (op.whileDetached = false → Attached t) → read t bytes = some p → P t → P (carry p t).1)
    (s : State) (h : P s) : P (dispatch op read carry s) := by
  refine takeRequest_keeps link (fun r t _ ht => ?_) s h
  unfold carryChecked
  split
  · exact ht
  · rename_i hd
    split
    · exact ht
    · split
      · exact ht
      · rename_i p hr
        refine effect p t _ (fun hw => ?_) hr ht
        simpa [hw, Attached, Option.isSome_iff_ne_none] using hd

end Sys2Proof.Machine
end

