-- ==== Sys2Proof/Laws/Commands.lean ====
section
/-! SUPPORT. The induction over the commands, packaged once: what every operation of a command keeps, the command keeps, and
what every command keeps, a step keeps. -/

namespace Sys2Proof.Machine

/-- What the events of the axes and inputs keep. -/
structure KeptByEvents (P : State → Prop) : Prop where
  countEvent : ∀ n takes s, P s → P (countEvent n takes s)
  quadratureError : ∀ n s, P s → P (quadratureError n s)
  indexArrival : ∀ n s, P s → P (indexArrival n s)
  decoderChange : ∀ n lines s, P s → P (decoderChange n lines s)
  triggerEdge : ∀ k before after s, P s → P (triggerEdge k before after s)

theorem KeptByAxes.events {P : State → Prop} (k : KeptByAxes (fun _ => True) P)
    (trigger : ∀ s i t, P s → P (s.setTrigger i t)) : KeptByEvents P :=
  ⟨fun _ => k.countEvent trivial, fun _ => k.quadratureError trivial, fun _ => k.indexArrival trivial,
    fun _ => k.decoderChange trivial, k.triggerEdge (fun _ => trivial) trigger⟩

/-- What the operations of the command `c` keep, for a property that does not look into the link beyond the session. -/
structure KeptByCommand (c : Instr) (P : State → Prop) : Prop extends KeptByRoutes none P, KeptByEvents P where
  advance : ∀ s d, P s → P (s.advance d)
  wires : ∀ s w, (s.wires.Rising → w.Rising) → P s → P (s.setWires w)
  timebase : ∀ s t, t.count = s.timebase.count → P s → P (s.setTimebase t)
  timeSet : c = .timeSet → ∀ s v, P s → P (carryTimeSet v s).1
  syncLoad : c = .syncEdge → ∀ s arm, P s → P (syncLoad arm s)
  trigger : ∀ s i t, P s → P (s.setTrigger i t)
  link : ∀ s l, l.session = s.link.session → P s → P (s.setLink l)
  pending : ∀ s l, P s → P { s with pending := l }
  cold : c = .coldReset → ∀ s, P s → P (coldReset s)
  warm : c = .txFrameComplete → ∀ s, P s → P (beginWarmReset s)
  completion : ∀ s r, P s → P (completeReset r s)
  endLead : ∀ s l, P s → P (endLead l s)
  endGap : ∀ s l, P s → P (endGap l s)
  endPulse : ∀ s l, P s → P (endPulse l s)
  outputConfig : ∀ s p, P s → P (carryOutputConfig p s).1
  outputAction : ∀ s p, P s → P (carryOutputAction p s).1
  outputStop : ∀ s p, P s → P (carryOutputStop p s).1
  enterSafe : ∀ s, P s → P (enterSafe s)
  leaveSafe : ∀ s, P s → P (leaveSafe s)
  enables : ∀ s e, P s → P (s.setQueue { s.queue with enables := e })
  ackTimeout : ∀ s, P s → P (ackTimeout s)
  notice : (∃ b, c = .frameReceived b ∨ c = .characterReceived b) →
    ∀ s a p, Attached s → P s → P (judgeNotice a p s)
  endSession : ∀ s, P s → P (endSession s)
  handover : ∀ s r, offered s = some r → P s → P (handover s)
  attach : ∀ s p, P s → P (carryAttach p s).1
  deliveryConfig : ∀ s b p, Attached s → readDeliveryConfig s b = some p → P s → P (carryDeliveryConfig p s).1
  fetch : ∀ s b p, Attached s → readFetch s b = some p → P s → P (carryFetch p s).1
  stopAll : ∀ s, P s → P (stopAll s)
  axisConfig : ∀ s b p, readAxisConfig s b = some p → P s → P (carryAxisConfig p s).1
  setPosition : ∀ s b p, readSetPosition s b = some p → P s → P (carrySetPosition p s).1
  home : ∀ s p, P s → P (carryHome p s).1
  homeCancel : ∀ s p, P s → P (carryHomeCancel p s).1
  stageAdd : ∀ s b p, readStageAdd s b = some p → P s → P (carryStageAdd p s).1
  stageRemove : ∀ s p, P s → P (carryStageRemove p s).1
  stageClear : ∀ s p, P s → P (carryStageClear p s).1
  stageCopy : ∀ s p, P s → P (carryStageCopy p s).1
  schedConfig : ∀ s p, P s → P (carrySchedConfig p s).1
  cancel : ∀ s n, P s → P (cancelCommit n s)
  start : ∀ s p, P s → P (carrySchedStart p s).1
  commit : c = .commit → ∀ s p, P s → P (carryCommit p s).1

theorem whenRunning_keeps {P : State → Prop} (f : State → State) (hf : ∀ s, P s → P (f s)) (s : State) (h : P s) :
    P (whenRunning f s) := by
  unfold whenRunning
  split
  · exact hf s h
  · exact h
  · exact h

variable {c : Instr} {P : State → Prop}

theorem KeptByCommand.runTo (k : KeptByCommand c P) (s : State) (d : Nat) (h : P s) : P (s.runTo d) := k.advance _ _ h

theorem KeptByCommand.receive (k : KeptByCommand c P) (hc : ∃ b, c = .frameReceived b ∨ c = .characterReceived b) (b : Byte) (s : State) (h : P s) : P (receiveCharacter b s) := by
  have l : ∀ s l, l.session = s.link.session → P s → P (s.setLink l) := k.link
  have r : ∀ r s, P s → P (setReceiver r s) := fun r s h => l _ _ rfl h
  have w : ∀ s, P s → P (countWrongKind s) := fun s h => l _ _ rfl h
  have c : ∀ s, P s → P (countAccepted s) := fun s h => l _ _ rfl h
  have nt : ∀ a p s, P s → P (takeNotice a p s) := by
    intro a p s h; unfold takeNotice; split
    · rename_i hs; exact k.notice hc _ _ _ (by simp [Attached, hs]) h
    · exact l _ _ rfl h
  have rk : ∀ s, P s → P (restartKeepalive s) := by
    intro s h; unfold restartKeepalive; split
    · exact l _ _ rfl h
    · exact h
  have ei : ∀ q s, P s → P (enterIntake q s) := by
    intro q s h; unfold enterIntake; split <;> exact l _ _ rfl h
  have acc : ∀ a b s, P s → P (acceptFrame a b s) := by
    intro a b s h
    unfold acceptFrame
    split
    · simp only
      split
      · exact ei _ _ (c _ (rk _ h))
      · split
        · exact nt _ _ _ (c _ (rk _ h))
        · split
          · exact nt _ _ _ (c _ (rk _ h))
          · exact w _ (rk _ h)
      · exact w _ (rk _ h)
    · exact h
  unfold receiveCharacter
  split
  · split
    · exact r _ _ h
    · exact h
  · split
    · exact r _ _ h
    · unfold countLengthError; exact l _ _ rfl (r _ _ h)
  · split <;> exact r _ _ h
  · exact r _ _ h
  · unfold checkFrame
    split
    · exact acc _ _ _ (r _ _ h)
    · exact l _ _ rfl (r _ _ h)

theorem KeptByCommand.expiry (k : KeptByCommand c P) (s : State) (h : P s) : P (keepaliveExpiry s) := by
  unfold keepaliveExpiry
  split
  · unfold applyLoss
    rename_i e p _ _
    have := k.endSession _ (k.runTo s e h)
    split
    · exact this
    · exact k.enterSafe _ this
    · exact k.stopAll _ (k.enterSafe _ this)
  · exact h

theorem KeptByCommand.take (k : KeptByCommand c P) (s : State) (h : P s) : P (takeFrame s) := by
  have st : ∀ f c s, P s → P (startSending f c s) := fun f c s h => k.link _ _ rfl h
  unfold takeFrame
  split
  · exact h
  · split
    · unfold sendReply
      simp only
      have := fun f c rs => st f c _ (k.link s { s.link with replies := rs } rfl h)
      split
      · exact k.endSession _ (this _ _ _)
      all_goals exact this _ _ _
    · exact st _ _ _ (k.link _ _ rfl h)
    · split
      · rename_i ho; exact st _ _ _ (k.handover _ _ ho h)
      · exact h

theorem KeptByCommand.frameComplete (k : KeptByCommand c P) (hc : c = .txFrameComplete) (s : State) (h : P s) : P (frameComplete s) := by
  unfold Machine.frameComplete
  split
  · exact h
  · simp only
    split
    · exact k.link _ _ rfl h
    · exact k.link _ _ rfl h
    · exact k.link _ _ rfl (k.link s { s.link with transmitter := .free } rfl h)
    · exact k.warm hc _ (k.link _ _ rfl h)

theorem KeptByCommand.exec (k : KeptByCommand c P) (s t : State) (h : P s) (he : exec c s = .next t) : P t := by
  have d {α : Type} {op : RequestOp} {read : State → List Byte → Option α} {carry : α → State → State × Answer}
    (e : ∀ p t bytes, (op.whileDetached = false → Attached t) → read t bytes = some p → P t → P (carry p t).1) :
    P (dispatch op read carry s) := dispatch_keeps k.link e s h
  cases c <;> (injection he with he; rw [← he])
  case coldReset => exact k.cold rfl _ h
  case coldResetComplete =>
    unfold completeCold; split <;> first | exact k.completion _ _ h | exact h
  case warmResetComplete =>
    unfold completeWarm; split <;> first | exact k.completion _ _ h | exact h
  case timebaseWrap => unfold timebaseWrap; split <;> first | exact k.advance _ _ h | exact h
  case countEvent n takes => exact whenRunning_keeps _ (k.countEvent n takes) _ h
  case quadratureError n => exact whenRunning_keeps _ (k.quadratureError n) _ h
  case indexArrival n => exact whenRunning_keeps _ (k.indexArrival n) _ h
  case decoderStateChange n lines => exact whenRunning_keeps _ (k.decoderChange n lines) _ h
  case leadEnd l => exact whenRunning_keeps _ (fun s => k.endLead s l) _ h
  case gapEnd l => exact whenRunning_keeps _ (fun s => k.endGap s l) _ h
  case pulseEnd l => exact whenRunning_keeps _ (fun s => k.endPulse s l) _ h
  case triggerEdge i b a => exact whenRunning_keeps _ (k.triggerEdge i b a) _ h
  case triggerRejectedPulse i => 
    refine whenRunning_keeps _ (fun s h => ?_) _ h
    unfold rejectedPulse; simp only; split
    · rename_i hc
      exact k.trigger _ _ _
        (k.wires _ _ (fun hw => hw.setTrigger _ (rejectedReturn_left (hw.2.1 i) hc)) (k.runTo _ _ h))
    · exact h
  case holdoffExpiry i =>
    refine whenRunning_keeps _ (fun s h => ?_) _ h
    unfold holdoffExpiry; split
    · exact k.trigger _ _ _ (k.runTo _ _ h)
    · exact h
  case syncEdge =>
    refine whenRunning_keeps _ (fun s h => ?_) _ h
    unfold syncEdge
    split
    · rename_i c hc
      have h : P ((s.runTo c.time).setSyncWire c.left) :=
        k.wires _ _ (fun hw => hw.setSync (nextHeld_left hw.2.2 hc)) (k.runTo _ c.time h)
      unfold takeSyncEdge
      simp only
      split
      · split
        · exact k.syncLoad rfl _ _ (k.timebase _ _ (by rfl) h)
        · exact k.timebase _ _ (by rfl) h
      · exact k.timebase _ _ (by rfl) h
    · exact h
  case ackTimeout => exact whenRunning_keeps _ k.ackTimeout _ h
  case keepaliveExpiry => exact whenRunning_keeps _ k.expiry _ h
  case frameReceived b =>
    refine whenRunning_keeps _ (fun s h => ?_) _ h
    split
    · exact k.receive ⟨_, .inl rfl⟩ _ _ h
    · exact h
  case characterReceived b => exact whenRunning_keeps _ (k.receive ⟨_, .inr rfl⟩ b) _ h
  case lengthError b =>
    refine whenRunning_keeps _ (fun s h => ?_) _ h
    split
    · exact k.link _ _ rfl (k.link _ _ rfl h)
    · exact h
  case characterError =>
    refine whenRunning_keeps _ (fun s h => ?_) _ h
    exact k.link _ _ rfl h
  case interByteGap =>
    refine whenRunning_keeps _ (fun s h => ?_) _ h
    unfold interByteGap; split
    · exact h
    all_goals exact k.link _ _ rfl (k.runTo _ _ h)
  case txTakeFrame => exact whenRunning_keeps _ k.take _ h
  case txFrameComplete => exact whenRunning_keeps _ (k.frameComplete rfl) _ h
  case unknownOpRequest => exact takeRequest_keeps k.link (fun r t _ h => h) s h
  case identify => exact d fun _ _ _ _ _ h => h
  case ping => exact d fun _ _ _ _ _ h => h
  case attach => exact d fun _ _ _ _ _ h => k.attach _ _ h
  case detach => exact d fun _ _ _ _ _ h => k.link _ _ rfl h
  case linkConfig => exact d fun _ _ _ _ _ h => h
  case linkStats => 
    refine d fun p t _ _ _ h => ?_
    unfold carryLinkStats; simp only; split
    · exact k.link _ _ rfl h
    · exact h
  case restart => exact d fun _ _ _ _ _ h => k.link _ _ rfl h
  case axisConfig => exact d fun _ _ _ _ hr h => k.axisConfig _ _ _ hr h
  case axisRead => exact d fun _ _ _ _ _ h => h
  case axisSetPosition => exact d fun _ _ _ _ hr h => k.setPosition _ _ _ hr h
  case home => exact d fun _ _ _ _ _ h => k.home _ _ h
  case homeCancel => exact d fun _ _ _ _ _ h => k.homeCancel _ _ h
  case stageAdd => exact d fun _ _ _ _ hr h => k.stageAdd _ _ _ hr h
  case stageRemove => exact d fun _ _ _ _ _ h => k.stageRemove _ _ h
  case stageClear => exact d fun _ _ _ _ _ h => k.stageClear _ _ h
  case stageCopy => exact d fun _ _ _ _ _ h => k.stageCopy _ _ h
  case schedConfig => exact d fun _ _ _ _ _ h => k.schedConfig _ _ h
  case commit => exact d fun _ _ _ _ _ h => k.commit rfl _ _ h
  case commitCancel => 
    refine d fun p t _ _ _ h => ?_
    unfold carryCommitCancel; split
    · exact k.cancel _ _ h
    · exact h
  case schedStart => exact d fun _ _ _ _ _ h => k.start _ _ h
  case schedStop => exact d fun p _ _ _ _ h => k.schedule _ p .stop (by simp) h
  case schedRead => exact d fun _ _ _ _ _ h => h
  case entryRead => 
    refine d fun p t _ _ _ h => ?_
    unfold carryEntryRead; simp only; split <;> exact h
  case outputConfig => exact d fun _ _ _ _ _ h => k.outputConfig _ _ h
  case outputAction => exact d fun _ _ _ _ _ h => k.outputAction _ _ h
  case outputStop => exact d fun _ _ _ _ _ h => k.outputStop _ _ h
  case outputRead => exact d fun _ _ _ _ _ h => h
  case outputSafe => exact d fun _ _ _ _ _ h => k.enterSafe _ h
  case outputRelease => exact d fun _ _ _ _ _ h => k.leaveSafe _ h
  case triggerConfig =>
    refine d fun p t _ _ _ h => ?_
    exact k.trigger _ _ _ (k.wires t _ (fun hw => hw.setTrigger p.1 (changesAfter_rising (hw.2.1 p.1))) h)
  case triggerRead => exact d fun _ _ _ _ _ h => h
  case routeSet => exact d fun _ _ _ _ _ h => k.routes _ _ h
  case routeClear => exact d fun _ _ _ _ _ h => k.routes _ _ h
  case routeRead => exact d fun _ _ _ _ _ h => h
  case captureNow => exact d fun _ _ _ _ _ h => k.record _ _ h
  case recordConfig => exact d fun _ _ _ _ _ h => k.enables _ _ h
  case queueRead => exact d fun _ _ _ _ _ h => h
  case deliveryConfig => exact d fun _ _ _ ha hr h => k.deliveryConfig _ _ _ (ha rfl) hr h
  case fetch => exact d fun _ _ _ ha hr h => k.fetch _ _ _ (ha rfl) hr h
  case timeRead => exact d fun _ _ _ _ _ h => h
  case timeSet => exact d fun _ _ _ _ _ h => k.timeSet rfl _ _ h
  case syncArm => exact d fun _ _ _ _ _ h => k.timebase _ _ (by rfl) h
  case syncDisarm => 
    refine d fun p t _ _ _ h => ?_
    unfold carrySyncDisarm; split
    · exact k.timebase _ _ (by rfl) h
    · exact h

/-- What every command keeps, every step keeps. -/
theorem step_keeps {P : State → Prop} (k : ∀ c, KeptByCommand c P) (s t : State) (h : P s) (he : step s = .next t) : P t := by
  unfold Machine.step at he
  split at he
  · injection he with he; rw [← he]; exact (k .coldReset).advance _ _ h
  · exact (k _).exec _ _ ((k .coldReset).pending _ _ h) he
end Sys2Proof.Machine
end

