-- ==== Sys2Proof/Laws/LinkCommands.lean ====
section
/-! SUPPORT. The induction over the commands for properties of the session, the intake and the reply cache. -/

namespace Sys2Proof.Machine

/-- Two links that agree in what sessions, the intake and the reply cache are made of. -/
def SameL (a b : Link) : Prop := a.session = b.session ∧ a.waiting = b.waiting ∧ a.replies = b.replies ∧ a.cache = b.cache
theorem RoutesChange.linkEq {s t : State} (h : RoutesChange s t) : t.link = s.link := by obtain ⟨_, _, _, _, _, _, rfl⟩ := h; rfl
theorem OnSchedule.linkEq {n} {s t : State} (h : OnSchedule n s t) : t.link = s.link := h.routesChange.linkEq
theorem EventsChange.linkEq {s t : State} (h : EventsChange s t) : t.link = s.link := by obtain ⟨_, _, _, _, hr⟩ := h; exact hr.linkEq

/-- What every request leaves of the link before its answer: the waiting requests and replies, and the session and cache but
for ATTACH. -/
def Carried (s u : State) : Prop := u.link.waiting = s.link.waiting ∧ u.link.replies = s.link.replies ∧
  ((u.link.session = s.link.session ∧ u.link.cache = s.link.cache) ∨ (u.link.session ≠ none ∧ u.link.cache = if s.link.session.isSome then [] else s.link.cache))
theorem Carried.ofEq {s u : State} (h : u.link = s.link) : Carried s u := by rw [Carried, h]; exact ⟨rfl, rfl, .inl ⟨rfl, rfl⟩⟩

/-- What the operations on the link of the command `c` keep: `P` before the command's one change of the reply queue, `Q`
after it. -/
structure LinkKept (c : Instr) (P Q : State → Prop) : Prop where
  imp : ∀ s, P s → Q s
  ofQ : ∀ {s t : State}, Q s → SameL t.link s.link → Q t
  endSessionQ : ∀ s, Q s → Q (endSession s)
  of : ∀ {s t : State}, P s → SameL t.link s.link → P t
  intake : ∀ s r, P s → P (enterIntake r s)
  retry : ∀ s r e rest, s.link.waiting = r :: rest → cachedFor r s.link.cache = some e → P s → Q (answerRetry r e (s.took rest))
  answer : ∀ s r rest u a, s.link.waiting = r :: rest → cachedFor r s.link.cache = none → P s → Carried (s.took rest) u → Q (answerRequest r (u, a))
  endSession : ∀ s, P s → P (endSession s)
  pop : c = .txTakeFrame → ∀ s q rest, s.link.replies = q :: rest → P s → Q (s.setLink { s.link with replies := rest })
  cold : c = .coldReset → ∀ s, P s → Q (coldReset s)
  warm : c = .txFrameComplete → ∀ s, P s → Q (beginWarmReset s)

/-- What the operations on the link keep, the command keeps. -/
theorem LinkKept.exec {c : Instr} {P Q : State → Prop} (k : LinkKept c P Q) (s t : State) (h : P s) (he : exec c s = .next t) : Q t := by
  have of' : ∀ {s t : State}, P s → t.link = s.link → P t := fun h e => k.of h (by rw [e]; exact ⟨rfl, rfl, rfl, rfl⟩)
  have same : ∀ {s : State} (l : Link), P s → SameL l s.link → P (s.setLink l) := fun l h e => k.of h e
  have run : ∀ (f : State → State), (∀ s, P s → P (f s)) → Q (whenRunning f s) := by
    intro f hf; unfold whenRunning; split <;> first | exact k.imp _ (hf _ h) | exact k.imp _ h
  have ev : ∀ (f : State → State), (∀ s, EventsChange s (f s)) → Q (whenRunning f s) := fun f hf => run f fun s h => of' h (hf s).linkEq
  have tr : ∀ (acc : Byte → Bool) (carry : Request → State → State × Answer), (∀ r t, Carried t (carry r t).1) → Q (takeRequest acc carry s) := by
    intro acc carry hcar
    rcases takeRequest_cases acc carry s with he | ⟨r, rest, -, -, hw, -, ⟨e, hc, he⟩ | ⟨hc, he⟩⟩
    · rw [he]; exact k.imp _ h
    · rw [he]; exact k.retry _ _ _ _ hw hc h
    · rw [he]; exact k.answer s r rest _ _ hw hc h (hcar _ _)
  have d {α : Type} {op : RequestOp} {read : State → List Byte → Option α} {carry : α → State → State × Answer}
    (e : ∀ p t, Carried t (carry p t).1) : Q (dispatch op read carry s) := by
    refine tr _ _ fun r t => ?_
    unfold carryChecked
    split; exact .ofEq rfl
    split; exact .ofEq rfl
    split; exact .ofEq rfl
    exact e _ _
  have dl {α : Type} {op : RequestOp} {read : State → List Byte → Option α} {carry : α → State → State × Answer}
    (e : ∀ p t, (carry p t).1.link = t.link) : Q (dispatch op read carry s) := d fun p t => .ofEq (e p t)
  have runQ : ∀ (f : State → State), (∀ s, P s → Q (f s)) → Q (whenRunning f s) := by
    intro f hf; unfold whenRunning; split <;> first | exact hf _ h | exact k.imp _ h
  have rc : ∀ b, P (receiveCharacter b s) := by
    have r : ∀ r s, P s → P (setReceiver r s) := fun r s h => same _ h ⟨rfl, rfl, rfl, rfl⟩
    have w : ∀ s, P s → P (countWrongKind s) := fun s h => same _ h ⟨rfl, rfl, rfl, rfl⟩
    have c : ∀ s, P s → P (countAccepted s) := fun s h => same _ h ⟨rfl, rfl, rfl, rfl⟩
    have nt : ∀ a p s, P s → P (takeNotice a p s) := by
      intro a p s h; unfold takeNotice; split
      · unfold judgeNotice; split
        · split
          · exact of' h rfl
          · exact of' h rfl
        · exact of' h rfl
      · exact same _ h ⟨rfl, rfl, rfl, rfl⟩
    have rk : ∀ s, P s → P (restartKeepalive s) := by
      intro s h; unfold restartKeepalive; split
      · exact same _ h ⟨rfl, rfl, rfl, rfl⟩
      · exact h
    have acc : ∀ a b s, P s → P (acceptFrame a b s) := by
      intro a b s h
      unfold acceptFrame
      split
      · simp only
        split
        · exact k.intake _ _ (c _ (rk _ h))
        · split
          · exact nt _ _ _ (c _ (rk _ h))
          · split
            · exact nt _ _ _ (c _ (rk _ h))
            · exact w _ (rk _ h)
        · exact w _ (rk _ h)
      · exact h
    intro b
    unfold receiveCharacter
    split
    · split
      · exact r _ _ h
      · exact h
    · split
      · exact r _ _ h
      · unfold countLengthError; exact same _ (r _ _ h) ⟨rfl, rfl, rfl, rfl⟩
    · split <;> exact r _ _ h
    · exact r _ _ h
    · unfold checkFrame
      split
      · exact acc _ _ _ (r _ _ h)
      · exact same _ (r _ _ h) ⟨rfl, rfl, rfl, rfl⟩
  cases c <;> (injection he with he; rw [← he])
  case coldReset => exact k.cold rfl _ h
  case coldResetComplete => refine k.imp _ ?_; unfold completeCold; split <;> first | exact h | exact k.of h ⟨rfl, rfl, rfl, rfl⟩
  case warmResetComplete => refine k.imp _ ?_; unfold completeWarm; split <;> first | exact h | exact k.of h ⟨rfl, rfl, rfl, rfl⟩
  case timebaseWrap => refine k.imp _ ?_; unfold timebaseWrap; split <;> first | exact h | exact of' h rfl
  case countEvent n takes => exact ev _ fun s => (EventsChange.kept s).countEvent (n := n) trivial takes s (.refl s)
  case quadratureError n => exact ev _ fun s => (EventsChange.kept s).quadratureError (n := n) trivial s (.refl s)
  case indexArrival n => exact ev _ fun s => (EventsChange.kept s).indexArrival (n := n) trivial s (.refl s)
  case decoderStateChange n lines => exact ev _ fun s => (EventsChange.kept s).decoderChange (n := n) trivial lines s (.refl s)
  case triggerEdge i b a => exact ev _ fun s => (EventsChange.kept s).triggerEdge (fun _ => trivial) (fun s' i t h => h.units s'.axes _) i b a s (.refl s)
  case leadEnd l => refine run _ fun s h => ?_; unfold endLead; split; exact h; split <;> first | exact h | exact of' h rfl
  case gapEnd l => refine run _ fun s h => ?_; unfold endGap; split; exact h; split <;> first | exact h | exact of' h rfl
  case pulseEnd l => refine run _ fun s h => ?_; unfold endPulse; split; exact h; split <;> first | exact h | exact of' h rfl
  case triggerRejectedPulse i => refine run _ fun s h => ?_; unfold rejectedPulse; simp only; split <;> first | exact h | exact of' h rfl
  case holdoffExpiry i => refine run _ fun s h => ?_; unfold holdoffExpiry; split <;> first | exact h | exact of' h rfl
  case syncEdge =>
    refine run _ fun s h => ?_
    unfold syncEdge takeSyncEdge syncLoad; simp only; split
    · split
      · split
        · rw [State.produceIf_eq]; exact of' h rfl
        · exact of' h rfl
      · exact of' h rfl
    · exact h
  case ackTimeout => refine run _ fun s h => ?_; unfold ackTimeout; split <;> first | exact h | exact of' h rfl
  case keepaliveExpiry =>
    refine run _ fun s h => ?_
    unfold keepaliveExpiry
    split
    · rename_i e p _ _
      have : P (Machine.endSession (s.runTo e)) := k.endSession _ (of' h rfl)
      unfold applyLoss
      obtain ⟨x, q, hq, hes⟩ := enterSafe_frame (Machine.endSession (s.runTo e))
      split
      · exact this
      · rw [hes]; exact of' this rfl
      · rw [hes]; exact of' this rfl
    · exact h
  case frameReceived b =>
    refine k.imp _ ?_; unfold whenRunning; split
    · show P (if _ then _ else _)
      split
      · exact rc b
      · exact h
    all_goals exact h
  case characterReceived b => refine k.imp _ ?_; unfold whenRunning; split <;> first | exact rc b | exact h
  case lengthError b =>
    refine run _ fun s h => ?_
    split
    · exact same _ (same _ h ⟨rfl, rfl, rfl, rfl⟩) ⟨rfl, rfl, rfl, rfl⟩
    · exact h
  case characterError => exact run _ fun s h => same _ h ⟨rfl, rfl, rfl, rfl⟩
  case interByteGap =>
    refine run _ fun s h => ?_
    unfold interByteGap; split
    · exact h
    all_goals exact k.of h ⟨rfl, rfl, rfl, rfl⟩
  case txTakeFrame =>
    refine runQ _ fun s h => ?_
    have stQ : ∀ f c s, Q s → Q (startSending f c s) := fun f c s h => k.ofQ h ⟨rfl, rfl, rfl, rfl⟩
    have st : ∀ f c s, P s → P (startSending f c s) := fun f c s h => same _ h ⟨rfl, rfl, rfl, rfl⟩
    unfold takeFrame
    split
    · exact k.imp _ h
    · split
      · rename_i q rest hq
        unfold sendReply
        simp only
        have := stQ q.reply.frame q.closing _ (k.pop rfl s q rest hq h)
        split
        · exact k.endSessionQ _ this
        all_goals exact this
      · refine k.imp _ ?_; exact st _ _ _ (same _ h ⟨rfl, rfl, rfl, rfl⟩)
      · split
        · refine k.imp _ ?_; exact st _ _ _ (of' h rfl)
        · exact k.imp _ h
  case txFrameComplete =>
    refine runQ _ fun s h => ?_
    unfold frameComplete
    split
    · exact k.imp _ h
    · simp only
      split
      · exact k.imp _ <| same _ h ⟨rfl, rfl, rfl, rfl⟩
      · exact k.imp _ <| same _ h ⟨rfl, rfl, rfl, rfl⟩
      · exact k.imp _ <| same _ (same { s.link with transmitter := .free } h ⟨rfl, rfl, rfl, rfl⟩) ⟨rfl, rfl, rfl, rfl⟩
      · exact k.warm rfl _ (same _ h ⟨rfl, rfl, rfl, rfl⟩)
  case unknownOpRequest => exact tr _ _ fun r t => .ofEq rfl
  case identify => exact dl fun _ _ => rfl
  case ping => exact dl fun _ _ => rfl
  case attach =>
    refine d fun p t => ?_
    unfold carryAttach; simp only
    split
    · rename_i hs; exact ⟨rfl, rfl, .inr ⟨(fun hh => nomatch hh), by rw [if_pos hs]; rfl⟩⟩
    · rename_i hs; exact ⟨rfl, rfl, .inr ⟨(fun hh => nomatch hh), by rw [if_neg hs]; rfl⟩⟩
  case detach => exact d fun p t => ⟨rfl, rfl, .inl ⟨rfl, rfl⟩⟩
  case linkConfig => exact dl fun _ _ => rfl
  case linkStats => exact d fun p t => by unfold carryLinkStats; simp only; split <;> exact ⟨rfl, rfl, .inl ⟨rfl, rfl⟩⟩
  case restart => exact d fun p t => ⟨rfl, rfl, .inl ⟨rfl, rfl⟩⟩
  case axisConfig =>
    refine dl fun p t => ?_
    unfold carryAxisConfig departIf; simp only; split
    · rw [(jump_frame _ _).linkEq]; split
      · rw [(departure_frame _ _).linkEq, axisRecord_eq]; rfl
      · rw [axisRecord_eq]; rfl
    · rfl
  case axisRead => exact dl fun _ _ => rfl
  case axisSetPosition =>
    refine dl fun p t => ?_
    unfold carrySetPosition; simp only
    rw [(jump_frame _ _).linkEq, axisRecord_eq]; rfl
  case home =>
    refine dl fun p t => ?_
    unfold carryHome departIf; simp only
    split
    · rw [(departure_frame _ _).linkEq]; rfl
    · rfl
  case homeCancel =>
    refine dl fun p t => ?_
    unfold carryHomeCancel; split
    · rw [axisRecord_eq]; rfl
    all_goals rfl
  case stageAdd =>
    refine dl fun p t => ?_
    unfold carryStageAdd; simp only; repeat' split
    all_goals rfl
  case stageRemove =>
    refine dl fun p t => ?_
    unfold carryStageRemove; simp only; repeat' split
    all_goals rfl
  case stageClear =>
    refine dl fun p t => ?_
    unfold carryStageClear; simp only; repeat' split
    all_goals rfl
  case stageCopy =>
    refine dl fun p t => ?_
    unfold carryStageCopy; simp only; repeat' split
    all_goals rfl
  case schedConfig => exact dl fun _ _ => rfl
  case commit =>
    refine dl fun p t => ?_
    unfold carryCommit; simp only; split; rfl
    split
    · rw [(sendEvents_frame _ _).linkEq, (takeCommit_frame _ _ _).linkEq]
    · rfl
    · split <;> rfl
  case commitCancel =>
    refine dl fun p t => ?_
    unfold carryCommitCancel; split
    · rw [(cancelCommit_frame _ _).linkEq]
    · rfl
  case schedStart =>
    refine dl fun p t => ?_
    unfold carrySchedStart; repeat' split
    all_goals rfl
  case schedStop => exact dl fun _ _ => rfl
  case schedRead => exact dl fun _ _ => rfl
  case entryRead => exact dl fun p t => by unfold carryEntryRead; simp only; split <;> rfl
  case outputConfig => exact dl fun p t => by unfold carryOutputConfig; simp only; split <;> rfl
  case outputAction =>
    refine dl fun p t => ?_
    unfold carryOutputAction; simp only; split; rfl
    obtain ⟨x, q, hq, he⟩ := takeAction_frame p.1 p.2 t; simp only [he]
  case outputStop => exact dl fun _ _ => rfl
  case outputRead => exact dl fun _ _ => rfl
  case outputSafe =>
    refine dl fun p t => ?_
    obtain ⟨x, q, hq, he⟩ := enterSafe_frame t; simp only [carryOutputSafe, he]
  case outputRelease => exact dl fun p t => by unfold carryOutputRelease leaveSafe; simp only; split <;> rfl
  case triggerConfig => exact dl fun _ _ => rfl
  case triggerRead => exact dl fun _ _ => rfl
  case routeSet => exact dl fun _ _ => rfl
  case routeClear => exact dl fun _ _ => rfl
  case routeRead => exact dl fun _ _ => rfl
  case captureNow => exact dl fun _ _ => rfl
  case recordConfig => exact dl fun _ _ => rfl
  case queueRead => exact dl fun _ _ => rfl
  case deliveryConfig => exact dl fun _ _ => rfl
  case fetch => exact dl fun p t => by unfold carryFetch; split <;> rfl
  case timeRead => exact dl fun _ _ => rfl
  case timeSet => exact dl fun _ _ => rfl
  case syncArm => exact dl fun _ _ => rfl
  case syncDisarm => exact dl fun p t => by unfold carrySyncDisarm; split <;> rfl

/-- And a step. -/
theorem step_link {P : State → Prop} (k : ∀ c, LinkKept c P P) (s t : State) (h : P s) (he : step s = .next t) : P t := by
  unfold Machine.step at he
  split at he
  · injection he with he; rw [← he]; exact (k .coldReset).of h ⟨rfl, rfl, rfl, rfl⟩
  · rename_i c rest _
    have h0 : P { s with pending := rest } := (k .coldReset).of h ⟨rfl, rfl, rfl, rfl⟩
    exact (k c).exec { s with pending := rest } _ h0 he

end Sys2Proof.Machine
end

