-- ==== Sys2Proof/Tests/Slice0.lean ====
section
/-! SUPPORT. Tests: the checks of WellFormed, the tables and worked examples of the spec, and for each statement of
Obligations.lean that has hypotheses a `witness_` theorem: a concrete state and operands that meet the hypotheses of
each of its clauses. -/

namespace Sys2Proof.Tests

-- One theorem at a time: kernel evaluations that wait for each other would each hold a thread.
set_option Elab.async false

open Sys2Proof.Machine

/-! ### Small states -/

/-- An attached part that has sent its HELLO. -/
def base : State :=
  { State.reset with link := { State.reset.link with session := some ⟨0, .none⟩, hello := none } }

/-- A fresh request of tag 7. -/
def req (op : Byte) (payload : List Byte) : Request := ⟨false, 7#8, op, payload, 0#16⟩

/-- The request waits alone. -/
def asked (op : Byte) (payload : List Byte) (s : State) : State :=
  { s with link := { s.link with waiting := [req op payload] } }

/-- AX0, its schedule, OUT0, TRIG0 and route 0 changed, and the queue, the delivery and the link. -/
def axis0 (f : Axis → Axis) (s : State) : State := s.setAxis 0 (f (s.axis 0))
def sched0 (f : Schedule → Schedule) (s : State) : State := s.setSched 0 (f (s.sched 0))
def line0 (f : Line → Line) (s : State) : State := s.setLine 0 (f (s.line 0))
def trig0 (f : Trigger → Trigger) (s : State) : State := s.setTrigger 0 (f (s.trigger 0))
def queued (f : RecordQueue → RecordQueue) (s : State) : State := s.setQueue (f s.queue)
def delivered (f : Delivery → Delivery) (s : State) : State := s.setDelivery (f s.delivery)
def linked (f : Link → Link) (s : State) : State := s.setLink (f s.link)

/-- The moments at which the A, B and index lines of AX0 change; those of TRIG0 and of SYNC. -/
def lines0 (a b index : List Nat) (s : State) : State := s.setAxisWires 0 ⟨a, b, index⟩
def wire0 (w : List Nat) (s : State) : State := s.setTriggerWire 0 w
def sync0 (w : List Nat) (s : State) : State := s.setSyncWire w

/-- From the pair (0, 0) in QUAD_X4 without a filter, AX0 counts UP or DOWN now (Table 1-2). -/
def goUp (s : State) : State := lines0 [s.now] [] [] s
def goDown (s : State) : State := lines0 [] [s.now] [] s
def count : Instr := .countEvent 0 []

/-- AX0 REFERENCED at x, LINEAR. -/
def at_ (x : Int) (s : State) : State := axis0 (fun a => { a with ref := .referenced, position := .linear x }) s

/-- AX0 REFERENCED, ROTARY with the default CPR of 4096. -/
def turned (turn : Word32) (angle : Nat) (s : State) : State :=
  axis0 (fun a => { a with ref := .referenced, position := .rotary turn angle }) s

/-- An entry in either direction without action, mark or record. -/
def entry (tag : Nat) (p : Int) : Entry := ⟨tag, p, .either, .repeated, none, false, 0, false, 0⟩

/-- What holds of the state after a command. -/
def after (c : Instr) (s : State) (p : State → Bool) : Bool :=
  match exec c s with
  | .next t => p t
  | .fault _ => false
  | .refused _ => false

/-- Status and payload of the newest reply. -/
def answer (s : State) : Option (Status × List Byte) :=
  s.link.replies.getLast?.map fun q => (q.reply.status, q.reply.payload)

/-- The request is taken by a running, attached part. -/
def Asks (op : Byte) (payload : List Byte) (s : State) : Prop :=
  Takes (asked op payload s) (req op payload) [] ∧ Attached (asked op payload s)

theorem asks (op : Byte) (payload : List Byte) {s : State} (h1 : s.phase = .running) (h2 : s.link.hold = .none)
    (h3 : s.link.session.isSome = true) : Asks op payload s := ⟨⟨h1, h2, rfl, .inl rfl⟩, h3⟩

theorem noRoute {s : State} (h : s.routes = State.reset.routes) (e : EventSource) : NoRouteOn s e := by
  intro r
  have hit : ∀ r, (State.reset.route r).enable = false := by decide
  have same : s.route r = State.reset.route r := by simp [State.route, h]
  simp [same, Route.hit, hit r]

/-! ### Well-formed commands -/

/-- A length byte of 4 is no LENGTH_ERROR (R168). -/
theorem test_length_four_is_refused : (Instr.lengthError 4#8).wellFormed = false := by decide
theorem test_length_three_is_an_error : (Instr.lengthError 3#8).wellFormed = true := by decide
theorem test_length_251_is_an_error : (Instr.lengthError 251#8).wellFormed = true := by decide

/-- No axis takes one edge twice (R102). -/
theorem test_doubled_axis_is_refused : (Instr.triggerEdge 0 [1] [1]).wellFormed = false := by decide
theorem test_two_axes_are_well_formed : (Instr.triggerEdge 0 [1] [2]).wellFormed = true := by decide

/-- The table gives no bits, so no word spells a command. -/
theorem test_no_word_is_a_command : decodeTableWord 16 0x1234 = none := rfl

/-! ### The spec's tables and examples -/

/-- R195's check value of the nine characters "123456789". -/
theorem test_crc_check_value :
    crc [0x31#8, 0x32#8, 0x33#8, 0x34#8, 0x35#8, 0x36#8, 0x37#8, 0x38#8, 0x39#8] = 0x29B1#16 := by decide +kernel

/-- The CRC of the frame of section 10.9, and the bytes of the whole frame. -/
theorem test_ping_frame_of_10_9 :
    encodeFrame 1#8 1#8 2#8 0#8 [] = [0xA5#8, 4#8, 1#8, 1#8, 2#8, 0#8, 0xBF#8, 0xEC#8] := by decide +kernel

/-- Section 10.9: the last byte of the PING frame puts the request into the intake with fingerprint 0xBFEC. The retry
differs in its kind byte alone; its own CRC passes and the fingerprint is the same. -/
theorem test_frame_received_takes_the_ping_and_its_retry :
    let retryCrc := crc [4#8, 0x81#8, 1#8, 2#8, 0#8]
    after (.frameReceived 0xEC#8)
      (linked (fun l => { l with receiver := .check 4#8 [1#8, 1#8, 2#8, 0#8] (some 0xBF#8) }) base)
      (fun t => t.link.waiting == [⟨false, 1#8, 2#8, [], 0xBFEC#16⟩] && t.link.stats.framesAccepted == 1#32) ∧
    retryCrc ≠ 0xBFEC#16 ∧
    after (.frameReceived (retryCrc.extractLsb' 0 8))
      (linked (fun l => { l with
        receiver := .check 4#8 [0x81#8, 1#8, 2#8, 0#8] (some (retryCrc.extractLsb' 8 8)) }) base)
      (fun t => t.link.waiting == [⟨true, 1#8, 2#8, [], 0xBFEC#16⟩]) := by decide +kernel

/-- Section 10.9: the retry is answered from the cache with RETRY set, or with RETRY_MISMATCH. -/
theorem test_retry_is_served_from_the_cache :
    after .ping
      (linked (fun l => { l with
        waiting := [⟨true, 1#8, 2#8, [], 0xBFEC#16⟩]
        cache := [⟨1#8, 0xBFEC#16, ⟨1#8, 2#8, .ok, [], false⟩⟩] }) base)
      (fun t => t.link.replies == [⟨⟨1#8, 2#8, .ok, [], true⟩, .nothing⟩] && t.link.stats.retriesServed == 1) := by
  decide +kernel

/-- Records numbered from `first`. -/
def numbered (first n : Nat) : List Record :=
  (List.range n).map fun i => ⟨BitVec.ofNat 32 (first + i), ⟨.gap 0, 0#48, []⟩⟩

/-- A queue with those records. -/
def holding (first n : Nat) (s : State) : State :=
  queued (fun q => { q with records := numbered first n, next := BitVec.ofNat 32 (first + n) }) s

/-- Delivery with these two points. -/
def points (send high : Nat) (s : State) : State :=
  delivered (fun d => { d with sendPoint := BitVec.ofNat 32 send, highMark := BitVec.ofNat 32 high }) s

/-- The body of a notice with a number, and its CRC. -/
def noticeBody (op : Byte) (seq : Word32) : List Byte := [4#8, 0#8, op, 0#8] ++ wordBytes seq
def noticeCrc (op : Byte) (seq : Word32) : Word16 := crc (8#8 :: noticeBody op seq)

/-- A notice is one last byte away. -/
def noticeComing (op : Byte) (seq : Word32) (s : State) : State :=
  linked (fun l => { l with
    receiver := .check 8#8 (noticeBody op seq) (some ((noticeCrc op seq).extractLsb' 8 8)) }) s

/-- Section 8.10: the late ACK(803) after the stall. -/
theorem test_late_ack_of_8_10 :
    after (.frameReceived ((noticeCrc 0x70#8 803#32).extractLsb' 0 8))
      (noticeComing 0x70#8 803#32 (points 801 805 (holding 801 10 (delivered (fun d =>
        { d with stalled := true, timeouts := 8 }) base))))
      (fun t => t.queue.oldest == 804#32 && t.queue.records.length == 7 && t.delivery.sendPoint == 804#32 &&
        t.delivery.highMark == 805#32 && t.delivery.timeouts == 0 && !t.delivery.stalled &&
        t.delivery.ackTimer == none) := by decide +kernel

/-- Section 8.9: NAK(503) moves the send point back to the oldest record, and the timer stops. -/
theorem test_nak_of_8_9 :
    after (.characterReceived ((noticeCrc 0x71#8 503#32).extractLsb' 0 8))
      (noticeComing 0x71#8 503#32 (points 507 507 (holding 503 4 (delivered (fun d =>
        { d with ackTimer := some 5 }) base))))
      (fun t => t.delivery.sendPoint == 503#32 && t.delivery.highMark == 507#32 && t.delivery.ackTimer == none) := by
  decide +kernel

/-- Section 8.10: expiry 8. -/
theorem test_eighth_expiry_of_8_10 :
    after .ackTimeout
      (points 805 805 (holding 801 10 (delivered (fun d => { d with timeouts := 7, ackTimer := some 20000000 }) base)))
      (fun t => t.now == 20000000 && t.delivery.sendPoint == 801#32 && t.delivery.highMark == 805#32 &&
        t.delivery.timeouts == 8 && t.delivery.stalled) := by decide +kernel

/-- Section 8.9: the handover of 501 starts the timer of 200 ms. -/
theorem test_first_handover_of_8_9 :
    after .txTakeFrame (points 501 501 (holding 501 6 base))
      (fun t => t.delivery.sendPoint == 502#32 && t.delivery.highMark == 502#32 &&
        t.delivery.ackTimer == some 20000000) := by decide +kernel

/-- Section 8.11: FETCH(16) returns four of five records, 901 a CAPTURE of four axes, 902 a COMPARE of one. -/
theorem test_fetch_of_8_11 :
    after .fetch
      (asked 0x54#8 [16#8] (points 901 901 (queued (fun q =>
        { q with
          next := 906#32
          records := [(901, 4), (902, 1), (903, 4), (904, 4), (905, 4)].map fun p =>
            ⟨BitVec.ofNat 32 p.1, ⟨.gap 0, 0#48, List.replicate p.2 ⟨0, 0#32, 0#32⟩⟩⟩ })
        (delivered (fun d => { d with mode := .poll, window := 16 }) base))))
      (fun t => t.delivery.sendPoint == 905#32 && t.delivery.highMark == 905#32 && t.queue.records.length == 5 &&
        (answer t).map (fun a => a.2.length) == some 218) := by decide +kernel

/-- Section 7.10: a removal of two records at a full queue with three losses pending admits the GAP record. -/
theorem test_gap_of_7_10 :
    let q : RecordQueue :=
      { base.queue with records := numbered 1001 256, next := 1257#32, pendingLoss := 3, totalLost := 3 }
    let r := q.remove 2 0#48
    (r.records.length == 255 && r.oldest == 1003#32 && r.next == 1258#32 && r.pendingLoss == 0 && r.totalLost == 3 &&
      r.records.getLast?.map (·.item.detail) == some (.gap 3)) = true := by decide +kernel

/-- Section 7.11: the occupancy across the wrap of the numbers. -/
theorem test_admission_across_the_wrap :
    after .captureNow (asked 0x50#8 [1#8] (holding 4294967294 3 base))
      (fun t => t.queue.records.map (·.seq) == [4294967294#32, 4294967295#32, 0#32, 1#32] && t.queue.next == 2#32) := by
  decide +kernel

/-- Section 9.11: the keepalive expires at 500 ms with SAFE_AND_STOP. -/
theorem test_keepalive_expiry_of_9_11 :
    after .keepaliveExpiry
      (points 45 45 (holding 41 6 (sched0 (fun c => { c with state := .running }) (line0 (fun x =>
        { x with running := some ⟨.pulse 65535, .active, 1, 100000000⟩ }) (linked (fun l =>
          { l with session := some ⟨500, .safeAndStop⟩, keepalive := some 50000000 }) base)))))
      (fun t => t.link.session == none && t.queue.next == 48#32 && t.delivery.sendPoint == 41#32 &&
        t.delivery.highMark == 41#32 && t.safe && (t.line 0).running == none && (t.sched 0).state == .stopped &&
        t.queue.records.getLast?.map (·.item.detail) == some (.safeEntered 0 1)) := by decide +kernel

/-- The list of the arming example of section 2.5 at position x, with these armed flags. -/
def arming (x : Int) (a3 a1 a2 : Bool) (s : State) : State :=
  sched0 (fun c =>
    { c with
      state := .running, h := 3
      active := [{ entry 3 98 with dir := .down, armed := a3 }, { entry 1 100 with dir := .up, armed := a1 },
        { entry 2 104 with retire := .once, armed := a2 }] }) (at_ x s)

/-- Section 2.5, the schedule enters RUNNING at 100: only tag 2, at distance 4, is armed. -/
theorem test_full_evaluation_of_2_5 :
    after .schedStart
      (asked 0x27#8 [0#8] (sched0 (fun c => { c with state := .stopped }) (arming 100 true true false base)))
      (fun t => (t.sched 0).active.map (·.armed) == [false, false, true]) := by decide +kernel

/-- Section 2.6: the example of three entries at one count. -/
def three : State :=
  { sched0 (fun c =>
      { c with
        state := .running
        active :=
          [⟨40, 0, .up, .once, some (2, .timed (.pulse 50)), true, 1, true, 0⟩,
            ⟨41, 0, .either, .repeated, some (2, .toggle), false, 0, true, 0⟩,
            ⟨42, 0, .down, .repeated, some (3, .set), true, 0, true, 0⟩,
            ⟨43, 1800, .up, .repeated, some (4, .timed (.pulse 10)), false, 0, true, 0⟩] })
      (axis0 (fun a => { a with config := { a.config with cpr := 3600 } }) (turned 7#32 3599 base)) with
    free := 490
    routes := State.reset.routes.set 5 ⟨true, some (.mark 0 1), 1, 0, some (.stop 0), 0, 0, 0⟩ }

/-- Section 2.5: the count +1 to 104 fires and retires tag 2 and returns its slot; a DOWN step to 98 fires tag 3, with
fire count 1, and leaves tag 1 armed. Section 2.6: three entries at one count. -/
theorem test_firings_of_2_5_and_2_6 :
    (after count (goUp (arming 103 true true true base))
       (fun t => (t.sched 0).active.map (fun e => (e.tag, e.armed)) == [(3, true), (1, true)] && t.free == 513 &&
         (t.sched 0).total == 1#32)) ∧
    (after count (goDown (arming 99 true true false base))
       (fun t => (t.sched 0).active.map (fun e => (e.tag, e.armed, e.fires)) ==
         [(3, false, 1), (1, true, 0), (2, true, 0)])) ∧
    (after count (goUp three)
       (fun t => (t.axis 0).position == .rotary 8#32 0 && t.free == 491 && (t.sched 0).state == .stopped &&
         (t.sched 0).active.map (fun e => (e.tag, e.armed)) == [(41, false), (42, true), (43, true)] &&
         t.queue.records.map (·.item.detail) == [.compare 40 .up 1] && (t.line 2).waiting == some .toggle &&
         (t.line 2).running == some ⟨.pulse 50, .active, 1, 500⟩ && (t.line 3).steady == .low)) := by
  decide +kernel

/-- Section 3.8: the commit at the last firing of a pass leaves the schedule RUNNING on the new list. Section 3.9: the
completed schedule takes its AT_TRIGGER commit from its own SCHED_DONE and runs again. -/
theorem test_commits_of_3_8_and_3_9 :
    (after count
       (goUp <| sched0 (fun c =>
         { c with
           state := .running, commit := some (.atPosition 3000 false)
           active := [{ entry 3 3000 with retire := .once, armed := true, record := true }]
           staging := [entry 13 1000, entry 12 2000, entry 11 3000] }) (at_ 2999 base))
       (fun t => (t.sched 0).state == .running && (t.sched 0).commit == none && (t.sched 0).staging == [] &&
         (t.sched 0).active.map (fun e => (e.tag, e.armed)) == [(13, true), (12, true), (11, false)] && t.free == 513 &&
         t.queue.records.map (·.item.detail) == [.compare 3 .up 1, .schedule 0 .committed 3])) ∧
    (after count
       (goUp { sched0 (fun c =>
           { c with
             state := .running, commit := some (.atTrigger true)
             active := [{ entry 10 500 with retire := .once, armed := true, record := true }]
             staging := [entry 20 600, entry 21 700] }) (at_ 499 base) with
         routes := State.reset.routes.set 3 ⟨true, some (.schedDone 0), 1, 0, some (.commit 0), 0, 0, 0⟩ })
       (fun t => (t.sched 0).state == .running && (t.sched 0).active.map (fun e => (e.tag, e.armed)) == [(20, true), (21, true)] &&
         t.queue.records.map (·.item.detail) ==
           [.compare 10 .up 1, .schedule 0 .done 0, .schedule 0 .committed 2])) := by
  decide +kernel

/-- Section 4.7: at 2.0 µs the pulse ends and the waiting TRAIN starts in LEAD; then LEAD ends, and a GAP. -/
theorem test_pulse_end_of_4_7 :
    after (.pulseEnd 0)
      (line0 (fun x => { x with
        running := some ⟨.pulse 20, .active, 1, 200⟩, waiting := some (.timed (.train 4 3 10)) }) base)
      (fun t => (t.line 0).running == some ⟨.train 4 3 10, .lead, 3, 210⟩ && (t.line 0).waiting == none &&
        (t.line 0).pin t.safe == .low) := by decide +kernel

theorem test_lead_end_of_4_7 :
    after (.leadEnd 0) (line0 (fun x => { x with running := some ⟨.train 4 3 10, .lead, 3, 210⟩ }) base)
      (fun t => (t.line 0).running == some ⟨.train 4 3 10, .active, 3, 250⟩ && (t.line 0).pin t.safe == .high) := by
  decide +kernel

theorem test_gap_end_of_4_7 :
    after (.gapEnd 0) (line0 (fun x => { x with running := some ⟨.train 4 3 10, .gap, 2, 310⟩ }) base)
      (fun t => (t.line 0).running == some ⟨.train 4 3 10, .active, 2, 350⟩) := by decide +kernel

/-- Section 4.7: the third action at a full slot is dropped, outcome DROPPED (Table 10-1: 4). -/
theorem test_output_action_dropped_of_4_7 :
    after .outputAction
      (asked 0x31#8 [0#8, 1#8, 0#8, 5#8, 0#8, 0#8, 0#8, 0#8] (line0 (fun x => { x with
        running := some ⟨.pulse 20, .active, 1, 200⟩, waiting := some (.timed (.train 4 3 10)) }) base))
      (fun t => answer t == some (.ok, [4#8]) && (t.line 0).drops == 1 &&
        t.queue.records.map (·.item.detail) == [.output 0 .dropped 1 0]) := by decide +kernel

/-- Section 4.8: OUTPUT_SAFE counts OUT5's TRAIN and its PULSE, and the pin is at its safe level. -/
theorem test_output_safe_of_4_8 :
    after .outputSafe
      (asked 0x34#8 [] (line0 (fun x => { x with
        safeLevel := .high, running := some ⟨.train 4 3 10, .active, 3, 40⟩, waiting := some (.timed (.pulse 5)) }) base))
      (fun t => t.safe && (t.line 0).pin t.safe == .high && (t.line 0).running == none &&
        t.queue.records.map (·.item.detail) == [.safeEntered 1 1]) := by decide +kernel

/-- Section 4.8: OUTPUT_RELEASE brings the line to its idle level. -/
theorem test_output_release_of_4_8 :
    after .outputRelease (asked 0x35#8 [] { line0 (fun x => { x with steady := .high }) base with safe := true })
      (fun t => !t.safe && (t.line 0).steady == .low) := by decide +kernel

/-- Section 2.6: the OUTPUT actions of routes 0 and 1 on the mark of tag 1, SET and TOGGLE, and the CLEAR of tag 2, which fires
later at the same count. -/
def marked : State :=
  { sched0 (fun c => { c with
      state := .running
      active := [{ entry 1 5 with armed := true, mark := 1 },
        { entry 2 5 with armed := true, action := some (2, .clear) }] }) (at_ 4 base) with
    routes := (State.reset.routes.set 0 ⟨true, some (.mark 0 1), 1, 0, some (.output 2 .set), 0, 0, 0⟩).set 1
      ⟨true, some (.mark 0 1), 1, 0, some (.output 2 .toggle), 0, 0, 0⟩ }

/-- R50: SET, TOGGLE, CLEAR; then SET, CLEAR, TOGGLE; then CLEAR, SET, TOGGLE. -/
theorem test_mark_actions_of_R50 :
    (after (.countEvent 0 []) (goUp marked) fun t => (t.line 2).steady == .low) ∧
    (after (.countEvent 0 [2]) (goUp marked) fun t => (t.line 2).steady == .high) ∧
    (after (.countEvent 0 [0]) (goUp marked) fun t => (t.line 2).steady == .low) := by decide +kernel

/-- R2, R98, R122: a level that holds exactly f ticks passes, one that returns a tick before does not; the line of section
5.8 up to 40.5 µs in the trigger filter of 500 ns. -/
theorem test_filters_of_R2_R98_and_R122 :
    nextHeld 3 [5, 8] = some ⟨8, [8]⟩ ∧ nextHeld 3 [5, 7, 20] = some ⟨23, []⟩ ∧ nextHeld 0 [5, 6] = some ⟨5, [6]⟩ ∧
    nextHeld 20 [100, 119] = none ∧ heldEdge 50 [0, 2000, 2030, 4000] = some ⟨50, [2000, 2030, 4000]⟩ ∧
    heldEdge 50 [2000, 2030, 4000] = none ∧ rejectedReturn 50 [2000, 2030, 4000] = some ⟨2030, [4000]⟩ ∧
    lineLevel 2029 .high [2000, 2030, 4000] = .low ∧ lineLevel 2030 .high [2000, 2030, 4000] = .high := by decide

/-- R166: 0xA5 in 8N1, least significant bit first. -/
theorem test_character_of_R166 :
    characterLevels 0xA5#8 = [.low, .high, .low, .high, .low, .low, .high, .low, .high, .high] := by decide

/-- Section 5.8: TRIG2 and its three routes before the edge at 150.5 µs; its line has gone HIGH at 150.0 µs. -/
def probe : State :=
  { sched0 (fun c => { c with active := [entry 1 5] }) (at_ 0 base) with
    now := 15000
    wires := { Wires.still with triggers := Wires.still.triggers.set 2 [15000] }
    timebase := ⟨1015000#48, none, .low⟩
    triggers := base.triggers.set 2 ⟨.both, 5, 100, .low, none, 1, 1, 1⟩
    routes := ((base.routes.set 0 ⟨true, some (.trig 2 .rise), 1, 0, some (.capture 3#4), 1, 1, 0⟩).set 4
      ⟨true, some (.trig 2 .any), 2, 1, some (.start 0), 1, 0, 0⟩).set 7
      ⟨true, some (.trig 2 .rise), 1, 0, some (.stop 0), 1, 1, 0⟩ }

theorem test_third_edge_of_5_8 :
    after (.triggerEdge 2 [] []) probe
      (fun t => t.trigger 2 == ⟨.both, 5, 100, .high, some 25050, 2, 1, 1⟩ && (t.sched 0).state == .running &&
        (t.route 4).counter == 0 && (t.route 4).acted == 1 && (t.route 7).matched == 2 && (t.route 7).shadowed == 1 &&
        t.queue.records.map (·.item.time) == [1015000#48]) := by decide +kernel

/-- Section 5.8: the falling edge within the holdoff, and the rejected pulse. -/
theorem test_held_off_edge_of_5_8 :
    after (.triggerEdge 0 [] []) (wire0 [4000, 15000] (trig0 (fun _ => ⟨.both, 5, 100, .high, some 10050, 1, 1, 0⟩) base))
      (fun t => t.trigger 0 == ⟨.both, 5, 100, .low, some 10050, 1, 1, 1⟩ && t.now == 4050 && t.triggerWire 0 == [15000]) := by decide +kernel

theorem test_rejected_pulse_of_5_8 :
    after (.triggerRejectedPulse 0)
      (wire0 [2000, 2030, 4000] (trig0 (fun _ => ⟨.both, 5, 100, .high, some 10050, 1, 0, 0⟩) base))
      (fun t => (t.trigger 0).filtered == 1 && t.now == 2030 && t.triggerWire 0 == [4000]) := by decide +kernel

/-- R115: a return just as the filter time elapses is a rejected pulse, or comes after the edge. -/
theorem test_return_meets_the_elapsing_of_R115 :
    let s := wire0 [2000, 2050] (trig0 (fun _ => ⟨.both, 5, 100, .high, some 10050, 1, 0, 0⟩) base)
    after (.triggerRejectedPulse 0) s (fun t => (t.trigger 0).filtered == 1 && (t.trigger 0).level == .high &&
      t.now == 2050 && t.triggerWire 0 == []) ∧
    after (.triggerEdge 0 [] []) s (fun t => (t.trigger 0).heldOff == 1 && (t.trigger 0).level == .low &&
      t.now == 2050 && t.triggerWire 0 == [2050]) := by decide +kernel

theorem test_holdoff_ends_of_5_8 :
    after (.holdoffExpiry 0) (trig0 (fun _ => ⟨.both, 5, 100, .high, some 10050, 1, 1, 1⟩) base)
      (fun t => (t.trigger 0).holdoffEnd == none && t.now == 10050) := by decide +kernel

/-- Section 6.6: the rising SYNC edge at part A. -/
theorem test_sync_edge_of_6_6 :
    after .syncEdge (sync0 [0] { base with timebase := ⟨4711000#48, some ⟨0#48, .rise⟩, .low⟩ })
      (fun t => t.timebase == ⟨0#48, none, .high⟩ && t.now == 20 &&
        t.queue.records.map (·.item) == [⟨.timeSync 4711020#48, 0#48, []⟩]) := by decide +kernel

/-- R118: after 2^48−1 comes 0. -/
theorem test_wrap : after .timebaseWrap { base with timebase := ⟨0xFFFFFFFFFFFF#48, none, .low⟩ }
    (fun t => t.timebase.count == 0#48 && t.now == 1) := by decide +kernel

/-! ### One step of each of the other commands, from its rule and its layout in chapter 10 -/

/-- R189, R190, R186: the resets and what completes them. -/
theorem test_cold_reset_clears_the_count :
    after .coldReset { base with timebase := ⟨9#48, none, .low⟩ }
      (fun t => t.timebase.count == 0#48 && t.phase == .coldReset && t.queue.next == 1#32) := by decide +kernel

theorem test_cold_reset_complete_takes_the_sync_level :
    after .coldResetComplete (sync0 [7] (wire0 [3, 5, 9] { base with phase := .coldReset, now := 7 }))
      (fun t => t.timebase.syncLevel == .high && (t.trigger 0).level == .low && t.wires.sync == [] &&
        t.triggerWire 0 == [9] && t.link.hello == some ⟨.cold, 1#32⟩) := by decide +kernel

/-- Section 7.11: the HELLO after the warm reset carries next sequence number 2. -/
theorem test_warm_reset_complete_of_7_11 :
    after .warmResetComplete
      { queued (fun q => { q with next := 2#32 }) base with phase := .warmReset }
      (fun t => t.phase == .running && t.link.hello == some ⟨.warm, 2#32⟩) := by decide +kernel

/-- R189, section 7.11: the RESTART reply leaves; the records are discarded and the next number is kept. -/
theorem test_restart_reply_leaves_of_7_11 :
    after .txFrameComplete (holding 0 2 (linked (fun l => { l with transmitter := .sending [] .warmReset }) base))
      (fun t => t.phase == .warmReset && t.queue.records == [] && t.queue.next == 2#32) := by decide +kernel

/-- R11: the sixteenth error of a REFERENCED axis with E = 16. -/
theorem test_sixteenth_quadrature_error :
    after (.quadratureError 0) (lines0 [0] [0] [] (axis0 (fun a => { a with errors := 15 }) (at_ 5 base)))
      (fun t => (t.axis 0).ref == .lost .quadErrors && (t.axis 0).position == .linear 5 &&
        t.queue.records.map (·.item.detail) == [.axis (.lost .quadErrors) (.lost .quadErrors) 16]) := by decide +kernel

/-- R14, R16: at angle 4093 the slip is −3, beyond the tolerance of 1; the turn rises. -/
theorem test_index_correction_crosses_the_wrap :
    after (.indexArrival 0) (lines0 [] [] [0] (turned 7#32 4093 base))
      (fun t => (t.axis 0).position == .rotary 8#32 0 && (t.axis 0).lastSlip == -3) := by decide +kernel

/-- R15: a slip of 65 is beyond the limit of 64. -/
theorem test_index_beyond_the_limit_is_lost :
    after (.indexArrival 0) (lines0 [] [] [0] (turned 7#32 65 base)) (fun t => (t.axis 0).ref == .lost .slip) := by decide +kernel

/-- R3: QUAD_X1 gives no count from (1, 0) to (1, 1); the pair is taken. -/
theorem test_quad_x1_takes_the_pair :
    after (.decoderStateChange 0 .pair)
      (lines0 [] [0] [] (axis0 (fun a =>
        { a with config := { a.config with countMode := .quadX1 }, decoder := ⟨.high, .low, .low⟩ }) base))
      (fun t => (t.axis 0).decoder == ⟨.high, .high, .low⟩ && (t.axis 0).position == .linear 0) := by decide +kernel

/-- R168, R170: the receiver. -/
theorem test_length_251_is_counted :
    after (.lengthError 251#8) (linked (fun l => { l with receiver := .length }) base)
      (fun t => t.link.receiver == .hunt && t.link.stats.lengthErrors == 1) := by decide +kernel

theorem test_character_error_ends_the_frame :
    after .characterError (linked (fun l => { l with receiver := .body 4#8 [1#8] }) base)
      (fun t => t.link.receiver == .hunt && t.link.stats.characterErrors == 1) := by decide +kernel

theorem test_gap_discards_the_frame :
    after .interByteGap (linked (fun l => { l with receiver := .body 4#8 [1#8] }) base)
      (fun t => t.link.receiver == .hunt && t.link.stats.gapDiscards == 1 && t.now == 200001) := by decide +kernel

/-- R175: HELLO's identifier 0x80 is no request. -/
theorem test_hello_is_no_request :
    after .unknownOpRequest (asked 0x80#8 [] base) (fun t => answer t == some (.unknownOp, [])) := by decide +kernel

/-- Section 9.11's ATTACH reply: oldest 41, next 48, occupancy 7, pending losses 0. -/
theorem test_attach_of_9_11 :
    after .attach (asked 0x03#8 [1#8, 0xF4#8, 2#8] (holding 41 7 (linked (fun l => { l with session := none }) base)))
      (fun t => t.link.session == some ⟨500, .safeAndStop⟩ && t.link.keepalive == some 50000000 && answer t ==
        some (.ok, [0#8, 0#8, 0#8, 41#8, 0#8, 0#8, 0#8, 48#8, 0#8, 7#8, 0#8, 0#8, 0#8, 0#8])) := by decide +kernel

theorem test_identify_names_the_part :
    after .identify (asked 0x01#8 [] base)
      (fun t => answer t == some (.ok,
        [0x3A#8, 0x17#8, 0x04#8, 0xC4#8, 2#8, 4#8, 8#8, 6#8, 16#8, 2#8, 0#8, 1#8, 0#8])) := by decide +kernel

theorem test_detach_holds_the_dispatcher :
    after .detach (asked 0x04#8 [] base) (fun t => t.link.hold == .detach && t.link.session == some ⟨0, .none⟩) := by
  decide +kernel

theorem test_restart_holds_the_dispatcher :
    after .restart (asked 0x07#8 [] base) (fun t => t.link.hold == .restart && t.phase == .running) := by decide +kernel

/-- R167: the rate stays until the reply's last byte has left. -/
theorem test_link_config_waits_for_its_reply :
    after .linkConfig (asked 0x05#8 [5#8] base)
      (fun t => t.link.baud == .b115200 && t.link.replies.map (·.closing) == [.rate .b3000000]) := by decide +kernel

theorem test_link_stats_clears_after_reading :
    after .linkStats (asked 0x06#8 [1#8] (linked (fun l => { l with stats := { l.stats with crcErrors := 258 } }) base))
      (fun t => t.link.stats.crcErrors == 0 && (answer t).map (fun a => a.2.take 6) ==
        some [0#8, 0#8, 0#8, 0#8, 1#8, 2#8]) := by decide +kernel

/-- Table 10-7: AX0 becomes ROTARY, CPR 3600, STEP_DIR, with the reset values of the rest. -/
theorem test_axis_config_reads_table_10_7 :
    after .axisConfig
      (asked 0x10#8 [0#8, 3#8, 1#8, 9#8, 1#8, 0#8, 0#8, 0x0E#8, 0x10#8, 2#8, 1#8, 0#8, 1#8, 2#8, 7#8] base)
      (fun t => (t.axis 0).config == ⟨.stepDir, true, 9, 3600, 2, 256, .reportOnly, .all, 7⟩ &&
        (t.axis 0).position == .rotary 0#32 0 && answer t == some (.ok, [])) := by decide +kernel

/-- Table 10-7: REFERENCED, no homing, AX0 at −2, last direction UP, 0 errors, no LOST reason. -/
theorem test_axis_read_writes_table_10_7 :
    after .axisRead (asked 0x11#8 [0#8] (at_ (-2) base))
      (fun t => (answer t).map (fun a => a.2.take 15) == some
        [2#8, 0#8, 0#8, 0#8, 0#8, 0#8, 0#8, 0xFF#8, 0xFF#8, 0xFF#8, 0xFE#8, 1#8, 0#8, 0#8, 0#8]) := by decide +kernel

theorem test_axis_set_position_references :
    after .axisSetPosition (asked 0x12#8 [0#8, 9#8, 9#8, 9#8, 9#8, 0xFF#8, 0xFF#8, 0xFF#8, 0xFF#8] base)
      (fun t => (t.axis 0).position == .linear (-1) && (t.axis 0).ref == .referenced) := by decide +kernel

theorem test_home_awaits_its_gate :
    after .home (asked 0x13#8 [0#8, 2#8, 5#8, 1#8, 0#8, 0#8, 1#8, 0#8] base)
      (fun t => (t.axis 0).ref == .seeking .awaitGate && (t.axis 0).homing == ⟨.triggerThenIndex, 5, .up, 256#32⟩ &&
        answer t == some (.accepted, [])) := by decide +kernel

theorem test_home_cancel_is_refused_when_not_seeking :
    after .homeCancel (asked 0x14#8 [0#8] base) (fun t => answer t == some (.wrongState, [])) := by decide +kernel

/-- Table 10-5: tag 258, position −1, UP, REPEAT, record, mark 2, TRAIN on OUT3, width 5, 6 pulses, period 7. -/
theorem test_stage_add_reads_table_10_5 :
    after .stageAdd
      (asked 0x20#8 [0#8, 1#8, 1#8, 2#8, 0xFF#8, 0xFF#8, 0xFF#8, 0xFF#8, 0x2D#8, 0x1D#8, 0#8, 5#8, 0#8, 6#8, 0#8, 7#8]
        base)
      (fun t => (t.sched 0).staging ==
          [⟨258, -1, .up, .repeated, some (3, .timed (.train 5 6 7)), true, 2, false, 0⟩] &&
        answer t == some (.ok, [0#8, 1#8, 1#8, 0xFF#8])) := by decide +kernel

/-- R34: a count of 17 with 240 bytes is refused with BAD_PARAM, one of 18 with BAD_LENGTH. -/
theorem test_stage_add_of_17_is_out_of_range :
    after .stageAdd (asked 0x20#8 (0#8 :: 17#8 :: List.replicate 238 0#8) base)
      (fun t => answer t == some (.badParam, [])) := by decide +kernel

theorem test_stage_remove_returns_the_slot :
    after .stageRemove (asked 0x21#8 [0#8, 0#8, 9#8]
        { sched0 (fun c => { c with staging := [entry 8 1, entry 9 2] }) base with free := 510 })
      (fun t => (t.sched 0).staging == [entry 8 1] && t.free == 511) := by decide +kernel

theorem test_stage_clear_is_refused_while_a_commit_pends :
    after .stageClear (asked 0x22#8 [0#8] (sched0 (fun c => { c with
        commit := some (.atTrigger true), staging := [entry 8 1] }) base))
      (fun t => (t.sched 0).staging == [entry 8 1] && (answer t).map (·.1) == some .wrongState) := by decide +kernel

theorem test_stage_copy_needs_slots :
    after .stageCopy (asked 0x23#8 [0#8] { sched0 (fun c => { c with active := [entry 8 1] }) base with free := 0 })
      (fun t => (t.sched 0).staging == [] && answer t == some (.noSpace, [0#8, 0#8, 0#8, 0#8])) := by decide +kernel

theorem test_sched_config_sets_the_hysteresis :
    after .schedConfig (asked 0x24#8 [0#8, 1#8, 0#8] base) (fun t => (t.sched 0).h == 256) := by decide +kernel

theorem test_commit_at_position_needs_a_reference :
    after .commit (asked 0x25#8 [0#8, 3#8, 0#8, 0#8, 0x0B#8, 0xB8#8, 0#8] base)
      (fun t => answer t == some (.notReferenced, [])) := by decide +kernel

theorem test_commit_now_runs_by_its_flag :
    after .commit (asked 0x25#8 [0#8, 1#8, 0#8, 0#8, 0#8, 0#8, 1#8] (sched0 (fun c => { c with
        staging := [entry 1 5] }) (at_ 0 base)))
      (fun t => (t.sched 0).state == .running && (t.sched 0).active.map (·.armed) == [true]) := by decide +kernel

theorem test_commit_cancel_keeps_the_staging_list :
    after .commitCancel (asked 0x26#8 [0#8] (sched0 (fun c => { c with
        commit := some (.atTrigger true), staging := [entry 8 1] }) base))
      (fun t => (t.sched 0).commit == none && (t.sched 0).staging == [entry 8 1]) := by decide +kernel

theorem test_sched_stop_ends_held :
    after .schedStop (asked 0x28#8 [0#8] (sched0 (fun c => { c with state := .held }) base))
      (fun t => (t.sched 0).state == .stopped) := by decide +kernel

/-- Table 10-7, section 2.5 at 103: RUNNING, three active, none staged, no commit, H 3, tag 2 above, tag 1 below. -/
theorem test_sched_read_of_2_5 :
    after .schedRead (asked 0x29#8 [0#8] (arming 103 true true true base))
      (fun t => (answer t).map (fun a => a.2.take 17) == some
        [1#8, 0#8, 3#8, 0#8, 0#8, 0#8, 0#8, 0#8, 0#8, 0#8, 0#8, 0#8, 3#8, 0#8, 2#8, 0#8, 1#8]) := by decide +kernel

theorem test_entry_read_finds_no_tag :
    after .entryRead (asked 0x2A#8 [0#8, 0#8, 0#8, 9#8] (arming 103 true true true base))
      (fun t => answer t == some (.noEntry, [])) := by decide +kernel

theorem test_output_config_sets_the_steady_level :
    after .outputConfig (asked 0x30#8 [0#8, 1#8, 0#8, 2#8, 0#8] base)
      (fun t => (t.line 0).steady == .high && (t.line 0).policy == .drop && !(t.line 0).report) := by decide +kernel

theorem test_output_stop_flags_what_it_ended :
    after .outputStop (asked 0x32#8 [0#8] (line0 (fun x => { x with
        running := some ⟨.pulse 5, .lead, 1, 10⟩, waiting := some .set }) base))
      (fun t => answer t == some (.ok, [1#8, 1#8]) && (t.line 0).lastPulseEnd == none) := by decide +kernel

/-- Table 10-8: not SAFE; OUT0 HIGH in ACTIVE of a PULSE of width 258, steady, idle and safe level LOW, QUEUE. -/
theorem test_output_read_writes_table_10_8 :
    after .outputRead (asked 0x33#8 [] (line0 (fun x => { x with running := some ⟨.pulse 258, .active, 1, 9⟩ }) base))
      (fun t => (answer t).map (fun a => a.2.take 17) == some
        [0#8, 1#8, 0#8, 0#8, 0#8, 1#8, 1#8, 1#8, 1#8, 2#8, 0#8, 0#8, 0#8, 0#8, 1#8, 0#8, 1#8]) := by decide +kernel

theorem test_trigger_config_takes_the_level :
    after .triggerConfig (asked 0x40#8 [0#8, 3#8, 5#8, 0#8, 100#8] (wire0 [0] base))
      (fun t => t.trigger 0 == ⟨.both, 5, 100, .high, none, 0, 0, 0⟩) := by decide +kernel

/-- Section 5.8: what TRIGGER_READ shows at the end. -/
theorem test_trigger_read_of_5_8 :
    after .triggerRead (asked 0x41#8 [0#8] (trig0 (fun _ => ⟨.both, 5, 100, .high, some 25050, 2, 1, 1⟩) base))
      (fun t => answer t == some (.ok, [1#8, 3#8, 5#8, 0#8, 100#8, 1#8, 0#8, 2#8, 0#8, 1#8, 0#8, 1#8])) := by decide +kernel

/-- Table 10-8: route 4 of section 5.8, TRIG(2, ANY), N = 2, START(1). -/
theorem test_route_set_reads_table_10_8 :
    after .routeSet (asked 0x42#8 [4#8, 1#8, 1#8, 2#8, 3#8, 0#8, 2#8, 2#8, 1#8, 0#8, 0#8, 0#8, 0#8, 0#8, 0#8, 0#8] base)
      (fun t => t.route 4 == ⟨true, some (.trig 2 .any), 2, 0, some (.start 1), 0, 0, 0⟩) := by decide +kernel

theorem test_route_clear_keeps_the_counters :
    after .routeClear (asked 0x43#8 [4#8] probe)
      (fun t => t.route 4 == ⟨false, some (.trig 2 .any), 2, 1, some (.start 0), 1, 0, 0⟩) := by decide +kernel

/-- R105: a route not set since reset reads back with every type and parameter 0, and N 1. -/
theorem test_route_read_after_reset :
    after .routeRead (asked 0x44#8 [4#8] base)
      (fun t => answer t == some (.ok, [0#8, 0#8, 0#8, 0#8, 0#8, 1#8] ++ List.replicate 16 0#8)) := by decide +kernel

theorem test_record_config_replaces_the_enables :
    after .recordConfig (asked 0x51#8 [0#8, 1#8, 0#8, 1#8] base)
      (fun t => t.queue.enables == ⟨false, true, false, true⟩) := by decide +kernel

theorem test_queue_read_after_the_wrap :
    after .queueRead (asked 0x52#8 [] (holding 4294967294 3 base))
      (fun t => (answer t).map (fun a => a.2.take 10) == some
        [0#8, 3#8, 0xFF#8, 0xFF#8, 0xFF#8, 0xFE#8, 0#8, 0#8, 0#8, 1#8]) := by decide +kernel

theorem test_delivery_config_falls_back :
    after .deliveryConfig (asked 0x53#8 [0#8, 2#8, 0#8, 10#8] (points 505 505 (holding 501 6 base)))
      (fun t => t.delivery.sendPoint == 501#32 && t.delivery.highMark == 503#32 && t.delivery.window == 2) := by
  decide +kernel

/-- Table 10-9: TIME_READ of a disarmed Timebase sends arm value 0 and arm edge RISE. -/
theorem test_time_read_disarmed :
    after .timeRead (asked 0x60#8 [] { base with timebase := ⟨0x010203040506#48, none, .high⟩ })
      (fun t => answer t == some (.ok,
        [1#8, 2#8, 3#8, 4#8, 5#8, 6#8, 0#8, 0#8, 0#8, 0#8, 0#8, 0#8, 0#8, 1#8, 1#8])) := by decide +kernel

theorem test_time_set_loads_six_bytes :
    after .timeSet (asked 0x61#8 [1#8, 2#8, 3#8, 4#8, 5#8, 6#8] base)
      (fun t => t.timebase.count == 0x010203040506#48) := by decide +kernel

theorem test_sync_arm_for_fall :
    after .syncArm (asked 0x62#8 [0#8, 0#8, 0#8, 0#8, 0#8, 7#8, 2#8] base)
      (fun t => t.timebase.arm == some ⟨7#48, .fall⟩) := by decide +kernel

theorem test_sync_disarm_of_nothing :
    after .syncDisarm (asked 0x63#8 [] base) (fun t => answer t == some (.noEntry, [])) := by decide +kernel

/-! ### Witnesses of the hypotheses -/

theorem witness_FrontCommandIsCarriedOut : { base with pending := [.syncEdge] }.pending = .syncEdge :: [] := rfl

theorem witness_ResetsGiveTheResetTables :
    let s := linked (fun l => { l with transmitter := .sending [] .warmReset }) base
    s.phase = .running ∧ s.link.transmitter = .sending [] .warmReset := by decide

theorem witness_ResetCompletionTakesTheLinesAndMakesHello :
    { base with phase := .warmReset }.phase = (if true then .warmReset else .coldReset) ∧
    { base with phase := .coldReset }.phase = (if false then .warmReset else .coldReset) := ⟨rfl, rfl⟩

theorem witness_TicksTheWrapAndLoadsMoveTheCount :
    (base.pending = [] ∧ base.phase ≠ .coldReset) ∧
    ({ base with phase := .coldReset }.pending = [] ∧ { base with phase := .coldReset }.phase = .coldReset) ∧
    exec .timeRead base = .next base ∧ Instr.timeRead ≠ .timeSet ∧ Instr.timeRead ≠ .syncEdge ∧
      Instr.timeRead ≠ .coldReset := ⟨by decide, by decide, rfl, by decide, by decide, by decide⟩

/-- The count armed for the rising edge, the SYNC level LOW. -/
def armed : State := { base with timebase := ⟨0#48, some ⟨7#48, .rise⟩, .low⟩ }

theorem witness_TimeRequestsAndSyncEdgeLoadTheCount :
    Asks 0x61#8 [0xFF#8, 0xFF#8, 0xFF#8, 0xFF#8, 0xFF#8, 0xFF#8] base ∧
    Asks 0x62#8 [0#8, 0#8, 0#8, 0#8, 0#8, 0#8, Edge.fall.code] base ∧
    (Asks 0x63#8 [] armed ∧ armed.timebase.arm ≠ none) ∧ (Asks 0x63#8 [] base ∧ base.timebase.arm = none) ∧
    Asks 0x60#8 [] base ∧
    (∀ s ∈ [sync0 [0, 20] armed, sync0 [0, 19, 40] armed, sync0 [5] base],
      s.phase = .running ∧ nextHeld 20 s.wires.sync ≠ none ∧ s.timebase.syncLevel = .low) ∧
    (sync0 [0, 20] armed).timebase.arm = some ⟨7#48, .rise⟩ ∧ (sync0 [5] base).timebase.arm = none ∧
    nextHeld 20 (sync0 [0, 19] armed).wires.sync = none :=
  ⟨asks _ _ rfl rfl rfl, asks _ _ rfl rfl rfl, ⟨asks _ _ rfl rfl rfl, by decide⟩, ⟨asks _ _ rfl rfl rfl, rfl⟩,
    asks _ _ rfl rfl rfl, by decide +kernel, rfl, rfl, by decide⟩

/-- Held for exactly the filter time, for one tick less, and without a filter; on a trigger input the first of these may be
an edge or a rejected pulse (R115); A first, B first, and both together. -/
theorem witness_LineFiltersPassLevelsThatHold :
    (∀ w ∈ [[], [5], [5, 8], [5, 7, 20], [5, 6]], w.Pairwise (· < ·)) ∧ nextHeld 3 [5, 8] = some ⟨8, [8]⟩ ∧
    nextHeld 3 [5, 7, 20] = some ⟨23, []⟩ ∧ nextHeld 3 [5, 7] = none ∧ nextHeld 0 [5, 6] = some ⟨5, [6]⟩ ∧
    heldEdge 3 [5, 8] = some ⟨8, [8]⟩ ∧ rejectedReturn 3 [5, 8] = some ⟨8, []⟩ ∧ rejectedReturn 3 [5, 9] = none ∧
    rejectedReturn 0 [5, 6] = none ∧ heldEdge 3 [5, 7, 20] = none ∧ rejectedReturn 3 [5, 7, 20] = some ⟨7, [20]⟩ ∧
    (∀ p ∈ [([], []), ([5], [6]), ([6], [5]), ([5], [5])],
      ((lines0 p.1 p.2 [] base).axisWires 0).a = p.1 ∧ ((lines0 p.1 p.2 [] base).axisWires 0).b = p.2) ∧
    (base.axis 0).config.filter = 0 := by decide +kernel

/-- AX0 in QUAD_X1 or in STEP_DIR. -/
def inMode (m : CountMode) (s : State) : State := axis0 (fun a => { a with config := { a.config with countMode := m } }) s

/-- The pair of AX0 changes now without a count: (0, 0) to (0, 1) in QUAD_X1, and both levels falling in STEP_DIR. -/
theorem witness_CountTableIsFollowedAndOtherLevelsAreTaken :
    (∀ s ∈ [goDown (inMode .quadX1 base),
        lines0 [0] [0] [] (axis0 (fun a => { a with decoder := ⟨.high, .high, .low⟩ }) (inMode .stepDir base))],
      s.phase = .running ∧ ∃ c, s.nextPair 0 = some c ∧
        rawCount (s.axis 0).config.countMode (s.axis 0).decoder.a (s.axis 0).decoder.b c.a c.b = none ∧
        ((s.axis 0).config.countMode = .stepDir ∨ (s.axis 0).decoder.a = c.a)) ∧
    (let s := lines0 [] [] [4] (axis0 (fun a => { a with decoder := ⟨.low, .low, .high⟩ }) base)
     s.phase = .running ∧ s.nextIndex 0 = some ⟨4, []⟩ ∧ (s.axis 0).decoder.index = .high) := by
  refine ⟨?_, by decide +kernel⟩
  intro s h
  fin_cases h
  · exact ⟨rfl, ⟨0, .low, .high, ⟨[], [], []⟩⟩, by decide +kernel, by decide +kernel, .inr rfl⟩
  · exact ⟨rfl, ⟨0, .low, .low, ⟨[], [], []⟩⟩, by decide +kernel, by decide +kernel, .inl rfl⟩

/-- The next change of AX0's pair gives that count, not inverted, and takes the position to p, or to none. -/
def counts (s : State) (raw : Dir) (p : Option Position) : Bool :=
  match s.nextPair 0 with
  | some c =>
    decide (rawCount (s.axis 0).config.countMode (s.axis 0).decoder.a (s.axis 0).decoder.b c.a c.b = some raw) &&
      !(s.axis 0).config.invert && decide (countPosition (s.axis 0).config.cpr raw (s.axis 0).position = p)
  | none => false

/-- The next change of AX0's pair changes both levels. -/
def changesBoth (s : State) : Bool :=
  match s.nextPair 0 with
  | some c => c.a != (s.axis 0).decoder.a && c.b != (s.axis 0).decoder.b
  | none => false

/-- Route 3 on an event, N = 1. -/
def route3 (src : RouteSource) (a : RouteAction) (s : State) : State :=
  { s with routes := State.reset.routes.set 3 ⟨true, some src, 1, 0, some a, 0, 0, 0⟩ }

/-- AX0 SEEKING on a source, with TRIG0 and a qualifier. -/
def seeking (source : HomingSource) (sub : HomingSub) (q : DirQualifier) (s : State) : State :=
  axis0 (fun a => { a with ref := .seeking sub, homing := ⟨source, 0, q, 9#32⟩ }) s

/-- An UP count at 2,147,483,646 and at the angle CPR − 1, a DOWN count at −2,147,483,647 and at the angle 0, and the
refused counts at the two limits of a LOST, an UNREFERENCED, a SEEKING and a REFERENCED axis. -/
theorem witness_CountMovesThePositionOrIsRefused :
    (∀ s ∈ [at_ 0 base, turned 0#32 4095 base], s.phase = .running ∧ (s.sched 0).state ≠ .running ∧
      (s.sched 0).commit = none) ∧
    counts (goUp (at_ 2147483646 base)) .up (some (.linear 2147483647)) ∧
    counts (goUp (turned 0#32 4095 base)) .up (some (.rotary 1#32 0)) ∧
    counts (goDown (at_ (-2147483647) base)) .down (some (.linear (-2147483648))) ∧
    counts (goDown (turned 0#32 0 base)) .down (some (.rotary (-1#32) 4095)) ∧
    (∀ ref ∈ [RefState.lost .slip, .unreferenced, .seeking .awaitGate, .referenced],
      counts (goUp (axis0 (fun a => { a with ref := ref }) (at_ 2147483647 base))) .up none ∧
      counts (goDown (axis0 (fun a => { a with ref := ref }) (at_ (-2147483648) base))) .down none) ∧
    (let s := goUp (sched0 (fun c => { c with state := .running, commit := some (.atPosition 9 true) })
       (at_ 2147483647 base))
     s.phase = .running ∧ counts s .up none ∧ (s.axis 0).ref = .referenced ∧
     (s.axis 0).position = .linear 2147483647) := by decide +kernel

/-- An error at 0 and at 65,535 of an UNREFERENCED axis, one in STEP_DIR, and the last before the limit of 16 and of 1. -/
theorem witness_QuadratureErrorsAreCountedUpToTheLimit :
    (∀ s ∈ [lines0 [0] [0] [] base, lines0 [0] [0] [] (axis0 (fun a => { a with errors := 65535 }) base)],
      s.phase = .running ∧ changesBoth s ∧ (s.axis 0).config.countMode ≠ .stepDir ∧ (s.axis 0).ref ≠ .referenced) ∧
    (lines0 [0] [0] [] (inMode .stepDir base)).phase = .running ∧ changesBoth (lines0 [0] [0] [] (inMode .stepDir base)) ∧
    ((inMode .stepDir base).axis 0).config.countMode = .stepDir ∧
    (∀ e ∈ [1, 16, 255],
      let s := route3 (.axisLost 0) (.capture 1#4) (lines0 [0] [0] []
        (axis0 (fun a => { a with errors := e - 1, config := { a.config with errorLimit := e } }) (at_ 0 base)))
      s.phase = .running ∧ changesBoth s ∧ (s.axis 0).config.countMode ≠ .stepDir ∧ (s.axis 0).ref = .referenced ∧
      (s.axis 0).config.errorLimit ≠ 0 ∧ (s.axis 0).config.errorLimit ≤ 255 ∧
      (s.axis 0).errors + 1 = (s.axis 0).config.errorLimit ∧ (s.route 3).hit (.axisLost 0) = true) := by
  decide +kernel

/-- Unchecked: UNREFERENCED, REFERENCED LINEAR, and the SEEKING axes that an index does not complete. Checked: clean at the
angle 1, corrected at the angles 2 and 4094, beyond the limit at the angles 65 and 2048, whose slip is CPR/2; CPR 4. A
route is set on the index, or on the loss. -/
theorem witness_IndexArrivalIsNotedAndJudgedBySlip :
    (∀ t ∈ [base, at_ 5 base, seeking .triggerThenIndex .awaitGate .any base,
        seeking .trigger .awaitReference .any base, seeking .index .awaitReference .down base],
      let s := route3 (.index 0) (.capture 1#4) (lines0 [] [] [0] t)
      s.phase = .running ∧ s.nextIndex 0 = some ⟨0, []⟩ ∧ (s.axis 0).decoder.index = .low ∧
      ((s.axis 0).ref = .seeking .awaitReference → (s.axis 0).homing.source = .trigger ∨
        ((s.axis 0).homing.qualifier = .up ∧ (s.axis 0).lastDir = .down) ∨
        ((s.axis 0).homing.qualifier = .down ∧ (s.axis 0).lastDir = .up)) ∧
      ((s.axis 0).ref = .referenced → (s.axis 0).position.mode = .linear)) ∧
    (∀ angle ∈ [0, 1, 2, 4094, 4095, 65, 2048], ∀ src ∈ [RouteSource.index 0, .axisLost 0],
      let s := route3 src (.capture 1#4) (lines0 [] [] [0] (turned 7#32 angle base))
      s.phase = .running ∧ s.nextIndex 0 = some ⟨0, []⟩ ∧ (s.axis 0).decoder.index = .low ∧
      (s.axis 0).ref = .referenced ∧ (s.axis 0).position = .rotary 7#32 angle) ∧
    ((turned 7#32 2 base).axis 0).config.tolerance < 2 ∧ 2 ≤ ((turned 7#32 2 base).axis 0).config.slipLimit ∧
    ((turned 7#32 2 base).axis 0).config.slipPolicy = .correct ∧
    ((turned 7#32 65 base).axis 0).config.slipLimit < 65 ∧ 4 ≤ (4 : Nat) ∧ 3 < (4 : Nat) := by decide +kernel

/-- TRIG0 under a selection and a holdoff, with a filter of 100 ns; its line goes HIGH now. -/
def takes (sel : EdgeSelection) (holdoff : Nat) (s : State) : State :=
  wire0 [s.now] (trig0 (fun k => { k with selection := sel, holdoff := holdoff, filter := 1 }) s)

/-- The next edge of TRIG0 is held, and no axis but AX0 homes on it. -/
def edgeComes (s : State) : Bool :=
  (heldEdge ((s.trigger 0).filter * 10) (s.triggerWire 0)).isSome && decide (s.phase = .running) &&
    decide ((s.trigger 0).holdoffEnd = none) &&
    Config.allAxes.all (fun m => decide (m = 0) || decide ((s.axis m).homing.source = .index)) &&
    Config.allRoutes.all fun r => !(s.route r).hit (.trig 0 .rise) && !(s.route r).hit (.trig 0 .fall)

/-- The edges that open the gate, complete homing and are ignored: not SEEKING, awaiting the index, in the wrong direction. -/
theorem witness_HomingCompletesOnItsIndexOrTriggerEdge :
    (∀ source ∈ [HomingSource.index, .triggerThenIndex], ∀ q ∈ [DirQualifier.any, .up],
      let s := route3 (.index 0) (.capture 1#4) (lines0 [] [] [0] (seeking source .awaitReference q base))
      s.phase = .running ∧ s.nextIndex 0 = some ⟨0, []⟩ ∧ (s.axis 0).decoder.index = .low ∧
      (s.axis 0).ref = .seeking .awaitReference ∧ (s.axis 0).homing.source = source ∧
      (s.axis 0).homing.qualifier = q ∧ (s.axis 0).lastDir = .up ∧ (s.sched 0).state ≠ .running) ∧
    (∀ hold ∈ [0, 65535], ∀ sel ∈ [EdgeSelection.both, .rise], ∀ t ∈ [base, turned 0#32 5 base],
      ∀ s ∈ [seeking .triggerThenIndex .awaitGate .any (takes sel hold t),
        seeking .trigger .awaitReference .up (takes sel hold t), takes sel hold t,
        seeking .triggerThenIndex .awaitReference .any (takes sel hold t),
        seeking .trigger .awaitReference .down (takes sel hold t)],
      edgeComes s ∧ (s.trigger 0).selection = sel ∧ (s.trigger 0).level = .low ∧ (s.axis 0).homing.input = 0 ∧
        (s.sched 0).state ≠ .running ∧ (s.axis 0).lastDir = .up) ∧
    (let s := trig0 (fun k => { k with level := .high }) (seeking .trigger .awaitReference .any (takes .fall 0 base))
     edgeComes s ∧ (s.trigger 0).selection = .fall ∧ (s.trigger 0).level = .high ∧
     (s.axis 0).ref = .seeking .awaitReference) := by decide +kernel

/-- An AXIS_CONFIG of CPR 4 for AX0, a HOME by INDEX and a position of 1. -/
def configBytes : List Byte := [0#8, 2#8, 0#8, 0#8, 1#8, 0#8, 0#8, 0#8, 4#8, 255#8, 0#8, 0#8, 0#8, 0#8, 0#8]
def homeRequest : List Byte := [0#8, 0#8, 0#8, 0#8, 0#8, 0#8, 0#8, 1#8]
def placeBytes : List Byte := [0#8, 0#8, 0#8, 0#8, 0#8, 0#8, 0#8, 0#8, 1#8]

theorem witness_AxisRequestsSetTheReferenceAndReachTheSchedule :
    (∀ s ∈ [base, at_ 0 base, sched0 (fun c => { c with commit := some (.atPosition 5 true) }) (at_ 0 base)],
      Asks 0x10#8 configBytes s ∧ (readAxisConfig s configBytes).map (·.1) = some 0 ∧
        (s.sched 0).state = .stopped ∧ (s.sched 0).active = [] ∧ (s.sched 0).staging = []) ∧
    Asks 0x10#8 configBytes (sched0 (fun c => { c with staging := [entry 1 5] }) base) ∧
    (Asks 0x12#8 placeBytes base ∧ readSetPosition base placeBytes = some (0, .linear 1) ∧
      (base.sched 0).state ≠ .running) ∧
    (Asks 0x13#8 homeRequest base ∧ readHome base homeRequest = some (0, ⟨.index, 0, .any, 1#32⟩) ∧
      (base.axis 0).ref ≠ .referenced) ∧
    (Asks 0x14#8 [byteOf 0] (seeking .index .awaitReference .any base) ∧
      ((seeking .index .awaitReference .any base).axis 0).ref = .seeking .awaitReference) ∧
    (Asks 0x14#8 [byteOf 0] base ∧ (base.axis 0).ref = .unreferenced) ∧
    (∀ s ∈ [at_ 0 base, arming 100 true true true base,
        sched0 (fun c => { c with state := .running, commit := some (.atPosition 5 true) }) (at_ 0 base)],
      Asks 0x13#8 homeRequest s ∧ homeRequest.length = 8 ∧ readHome s homeRequest = some (0, ⟨.index, 0, .any, 1#32⟩) ∧
        (s.axis 0).ref = .referenced) ∧
    (let s := arming 100 true true true base
     Asks 0x12#8 placeBytes s ∧ placeBytes.length = 9 ∧ readSetPosition s placeBytes = some (0, .linear 1) ∧
       (s.sched 0).state = .running) := by
  refine ⟨?_, asks _ _ rfl rfl rfl, ⟨asks _ _ rfl rfl rfl, by decide +kernel, by decide⟩,
    ⟨asks _ _ rfl rfl rfl, by decide +kernel, by decide⟩, ⟨asks _ _ rfl rfl rfl, rfl⟩, ⟨asks _ _ rfl rfl rfl, rfl⟩,
    ?_, asks _ _ rfl rfl rfl, rfl, by decide +kernel, rfl⟩
  · intro s h
    fin_cases h <;> exact ⟨asks _ _ rfl rfl rfl, by decide +kernel, rfl, rfl, rfl⟩
  · intro s h
    fin_cases h <;> exact ⟨asks _ _ rfl rfl rfl, rfl, by decide +kernel, rfl⟩

/-- Two entries staged, and the same with a commit pending. -/
def staged : State := sched0 (fun c => { c with staging := [entry 8 1, entry 9 2] }) base
def frozen : State := sched0 (fun c => { c with commit := some (.atTrigger false) }) staged

theorem witness_StagingRemovesClearsAndCopies :
    Asks 0x21#8 [byteOf 0, 0#8, 0#8] staged ∧
    (Asks 0x21#8 [byteOf 0, 0#8, 9#8] frozen ∧ (frozen.sched 0).commit ≠ none) ∧
    (Asks 0x21#8 [byteOf 0, 255#8, 255#8] staged ∧ (staged.sched 0).commit = none ∧
      ∀ e ∈ (staged.sched 0).staging, e.tag ≠ 65535) ∧
    (Asks 0x21#8 [byteOf 0, 0#8, 9#8] staged ∧ (staged.sched 0).staging = [entry 8 1] ++ entry 9 2 :: [] ∧
      (entry 9 2).tag = 9 ∧ ∀ x ∈ [entry 8 1], x.tag ≠ 9) ∧
    (Asks 0x22#8 [byteOf 0] frozen ∧ Asks 0x22#8 [byteOf 0] staged) ∧
    (Asks 0x23#8 [byteOf 0] frozen ∧ Asks 0x23#8 [byteOf 0] staged ∧
      (staged.sched 0).active.length ≤ staged.free + (staged.sched 0).staging.length) ∧
    (let full := { sched0 (fun c => { c with active := [entry 1 1] }) base with free := 0 }
     Asks 0x23#8 [byteOf 0] full ∧ (full.sched 0).commit = none ∧
       full.free + (full.sched 0).staging.length < (full.sched 0).active.length) :=
  ⟨asks _ _ rfl rfl rfl, ⟨asks _ _ rfl rfl rfl, by decide⟩, ⟨asks _ _ rfl rfl rfl, rfl, by decide⟩,
    ⟨asks _ _ rfl rfl rfl, rfl, rfl, by decide⟩, ⟨asks _ _ rfl rfl rfl, asks _ _ rfl rfl rfl⟩,
    ⟨asks _ _ rfl rfl rfl, asks _ _ rfl rfl rfl, by decide⟩, asks _ _ rfl rfl rfl, rfl, by decide⟩

/-- A STAGE_ADD of entry 9 at 1 for AX0. -/
def addBytes : List Byte := [0#8, 1#8] ++ (entry 9 1).encode

/-- Commit pending, tag held, pool empty, and the place between equal and greater positions. -/
theorem witness_StageAddIsPlacedAllOrNone :
    (∀ es ∈ [[entry 5 1, entry 6 0, entry 7 1], [entry 5 1, entry 5 2], [entry 8 0], List.replicate 16 (entry 5 1)],
      ∀ s ∈ [staged, frozen, { staged with free := 2 }], Asks 0x20#8 (stageAddBytes 0 es) s ∧
        (stageAddBytes 0 es).length = 2 + 14 * es.length ∧ readStageAdd s (stageAddBytes 0 es) = some (0, es)) ∧
    ((staged.sched 0).staging.Pairwise fun x y => x.position ≤ y.position) ∧
    ([entry 5 1, entry 6 0, entry 7 1].map Entry.tag).Nodup ∧
    (∀ e ∈ [entry 5 1, entry 6 0, entry 7 1], e.tag ∉ (staged.sched 0).staging.map Entry.tag) ∧
    ¬([entry 5 1, entry 5 2].map Entry.tag).Nodup ∧ 2 < [entry 5 1, entry 6 0, entry 7 1].length ∧
    addBytes.length = 16 ∧ addBytes.length = 2 + 14 * [entry 9 1].length ∧
    (∀ s ∈ [frozen, staged, { base with free := 0 }, sched0 (fun c => { c with staging := [entry 8 1, entry 7 2] }) base],
      Asks 0x20#8 addBytes s ∧ readStageAdd s addBytes = some (0, [entry 9 1])) ∧
    (frozen.sched 0).commit ≠ none ∧ (∃ x ∈ (staged.sched 0).staging, x.tag = (entry 9 1).tag) ∧
    ({ base with free := 0 }.sched 0).commit = none ∧
    (∀ x ∈ [entry 8 1], x.position ≤ (entry 9 1).position) ∧ (∀ x ∈ [entry 7 2], (entry 9 1).position < x.position) := by
  refine ⟨?_, by decide +kernel, by decide, by decide +kernel, by decide, by decide, by decide +kernel, by decide +kernel, ?_,
    by decide, by decide +kernel, rfl, by decide, by decide⟩
  · intro es he s hs
    fin_cases he <;> fin_cases hs <;> exact ⟨asks _ _ rfl rfl rfl, by decide +kernel, by decide +kernel⟩
  · intro s h
    fin_cases h <;> exact ⟨asks _ _ rfl rfl rfl, by decide +kernel⟩

/-- The greatest and the least values that the layouts carry. -/
theorem witness_EntriesAndParametersReadBack :
    Entry.inRange (base.axis 0)
      ⟨65535, -2147483648, .either, .once, some (7, .timed (.train 65534 65535 65535)), true, 3, false, 0⟩ ∧
    Entry.inRange ((turned 0#32 0 base).axis 0) ⟨1, 4095, .up, .repeated, some (0, .timed (.pulse 1)), false, 0, false, 0⟩ ∧
    AxisConfig.inRange ⟨.stepDir, true, 255, 16777216, 255, 65535, .reportOnly, .all, 255⟩ ∧
    AxisConfig.inRange ⟨.quadX1, false, 0, 4, 0, 0, .correct, .off, 0⟩ ∧
    (HomingSource.trigger ≠ .index ∧ (0#8 : Byte) = byteOf (0 : TriggerId).val ∧ (base.axis 0).homing.input = 0) ∧
    ((base.axis 0).position.mode = .linear ∧ ((turned 0#32 0 base).axis 0).position.mode = .rotary ∧
      ((turned 0#32 0 base).axis 0).config.cpr ≤ 16777216) ∧
    (base.axis 0).inRange 2147483647 = true ∧
    (∀ e ∈ List.replicate 16 (entry 1 5), Entry.inRange (base.axis 0) e) ∧
    Route.inRange ⟨true, some (.mark 3 3), 256, 0, some (.capture 15#4), 0, 0, 0⟩ ∧
    Route.inRange ⟨false, some (.trig 5 .any), 1, 0, some (.output 7 (.timed (.train 1 2 2))), 0, 0, 0⟩ := by
  have train : OutAction.inRange (.timed (.train 65534 65535 65535)) := by simp [OutAction.inRange]
  have pulse : OutAction.inRange (.timed (.pulse 1)) := by simp [OutAction.inRange]
  refine ⟨?_, ?_, by simp [AxisConfig.inRange], by simp [AxisConfig.inRange], by decide +kernel, by decide +kernel,
    by decide +kernel, ?_, ?_, ?_⟩
  · exact ⟨by decide, by decide, by decide, by decide, by decide +kernel, by rintro _ _ ⟨⟩; exact train, rfl, rfl⟩
  · exact ⟨by decide, by decide, by decide, by decide, by decide +kernel, by rintro _ _ ⟨⟩; exact pulse, rfl, rfl⟩
  · intro e h
    rw [List.eq_of_mem_replicate h]
    exact ⟨by decide, by decide, by decide, by decide, by decide +kernel, by rintro _ _ ⟨⟩, rfl, rfl⟩
  · exact ⟨by decide, by rintro _ _ ⟨⟩; decide, by decide, by decide, by decide, by rintro _ ⟨⟩; decide,
      by rintro _ _ ⟨⟩, rfl, rfl, rfl, rfl⟩
  · exact ⟨by decide, by rintro _ _ ⟨⟩, by decide, by decide, by decide, by rintro _ ⟨⟩,
      by rintro _ _ ⟨⟩; simp [OutAction.inRange], rfl, rfl, rfl, rfl⟩

/-- A schedule with one entry, on an axis that is REFERENCED or not. -/
def ready : State := sched0 (fun c => { c with active := [entry 1 5] }) (at_ 0 base)
def unready : State := sched0 (fun c => { c with active := [entry 1 5] }) base

theorem witness_ScheduleStartsStopsAndKeepsItsList :
    Asks 0x27#8 [byteOf 0] (arming 100 true true true base) ∧
    ((arming 100 true true true base).sched 0).state = .running ∧
    (Asks 0x27#8 [byteOf 0] base ∧ (base.sched 0).state ≠ .running ∧ (base.sched 0).active = []) ∧
    (Asks 0x27#8 [byteOf 0] unready ∧ (unready.sched 0).state ≠ .running ∧ (unready.sched 0).active ≠ [] ∧
      (unready.axis 0).ref ≠ .referenced) ∧
    (Asks 0x27#8 [byteOf 0] ready ∧ (ready.sched 0).state ≠ .running ∧ (ready.sched 0).active ≠ [] ∧
      (ready.axis 0).ref = .referenced) ∧
    Asks 0x28#8 [byteOf 0] base ∧ Asks 0x24#8 [byteOf 0, 255#8, 255#8] base ∧ Asks 0x24#8 [byteOf 0, 0#8, 1#8] base ∧
    Asks 0x24#8 [byteOf 0, 0#8, 0#8] base :=
  ⟨asks _ _ rfl rfl rfl, rfl, ⟨asks _ _ rfl rfl rfl, by decide, rfl⟩,
    ⟨asks _ _ rfl rfl rfl, by decide, by decide +kernel, by decide⟩,
    ⟨asks _ _ rfl rfl rfl, by decide, by decide +kernel, rfl⟩, asks _ _ rfl rfl rfl, asks _ _ rfl rfl rfl,
    asks _ _ rfl rfl rfl, asks _ _ rfl rfl rfl⟩

theorem witness_CommitPendsTakesEffectOrIsWithdrawn :
    (∀ m ∈ [CommitMode.now, .atTrigger, .atPosition (-2147483648), .atPosition 2147483647], ∀ s ∈ [base, frozen, at_ 0 base],
      Asks 0x25#8 (commitBytes 0 m true) s ∧ (commitBytes 0 m true).length = 7 ∧
        readCommit s (commitBytes 0 m true) = some (0, m, true)) ∧
    (frozen.sched 0).commit ≠ none ∧ (base.sched 0).commit = none ∧ (base.axis 0).ref ≠ .referenced ∧
    ((at_ 0 base).sched 0).commit = none ∧ ((at_ 0 base).axis 0).ref = .referenced ∧
    Asks 0x26#8 [byteOf 0] frozen ∧ Asks 0x26#8 [byteOf 0] base := by
  refine ⟨?_, by decide, rfl, by decide, rfl, rfl, asks _ _ rfl rfl rfl, asks _ _ rfl rfl rfl⟩
  intro m hm s hs
  fin_cases hm <;> fin_cases hs <;> exact ⟨asks _ _ rfl rfl rfl, rfl, by decide +kernel⟩

/-- A DOWN count from 101 to 100 reaches tag 1, which accepts UP only; the distances from the last angle and from 5. -/
theorem witness_CountWithoutFiringRearmsByDistance :
    (let s := goDown (arming 101 true true false base)
     s.phase = .running ∧ (s.sched 0).state = .running ∧ (s.sched 0).active ≠ [] ∧ counts s .down (some (.linear 100)) ∧
     (s.sched 0).commit = none ∧
     ∀ e ∈ (s.sched 0).active, (s.axis 0).ref ≠ .referenced ∨ e.armed = false ∨ e.position ≠ 100 ∨
       (e.dir = .up ∧ Dir.down = .down) ∨ (e.dir = .down ∧ Dir.down = .up)) ∧
    ((turned 0#32 4095 base).axis 0).position = .rotary 0#32 4095 ∧
    4095 < ((turned 0#32 4095 base).axis 0).config.cpr ∧ ((at_ 5 base).axis 0).position = .linear 5 := by decide +kernel

/-- An UP count from 4 to 5 at which the armed ones of these entries fire. -/
def firing (es : List Entry) : State := goUp (sched0 (fun c => { c with state := .running, active := es }) (at_ 4 base))

/-- Tag 2 at 5, ONCE or REPEAT, with or without action, record and mark. -/
def shot (r : Retire) (record : Bool) : Entry :=
  { entry 2 5 with armed := true, record := record, retire := r, action := if record then none else some (0, .toggle), mark := 1 }

/-- One firing between two others, three firings at once, and the last entry retiring. -/
theorem witness_FiringCountsDisarmsRetiresAndReports :
    ∀ r ∈ [Retire.once, .repeated], ∀ b : Bool,
      ∀ es ∈ [[entry 1 5, shot r b, entry 3 9],
        [{ shot r b with tag := 7 }, shot .once b, { shot .repeated (!b) with tag := 9 }], [shot .once b]],
      (firing es).phase = .running ∧ ((firing es).sched 0).state = .running ∧ ((firing es).axis 0).ref = .referenced ∧
      counts (firing es) .up (some (.linear 5)) ∧ ((firing es).sched 0).commit = none ∧
      (((firing es).sched 0).active.map Entry.tag).Nodup ∧
      ∀ i : RouteId, (∀ m, ((firing es).route i).hit (.mark 0 m) = false) ∧
        ((firing es).route i).hit (.schedDone 0) = false := by decide +kernel

/-- An UP count from 4 to the commit position 5 on a STOPPED, a HELD and a RUNNING schedule, on which an entry fires. -/
theorem witness_CountReachesAnAtPositionCommit :
    ∀ st ∈ [SchedState.stopped, .held, .running], ∀ new ∈ [[], [entry 1 9]],
      let s := goUp (sched0 (fun c => { c with
        state := st, commit := some (.atPosition 5 true), active := [shot .once true], staging := new }) (at_ 4 base))
      s.phase = .running ∧ (s.sched 0).state = st ∧ (s.axis 0).ref = .referenced ∧
      counts s .up (some (.linear 5)) ∧ (s.sched 0).commit = some (.atPosition 5 true) ∧
      ((s.sched 0).active.map Entry.tag).Nodup ∧
      ∀ i : RouteId, (∀ m, (s.route i).hit (.mark 0 m) = false) ∧ (s.route i).hit (.schedDone 0) = false := by
  decide +kernel

/-- `marked` with a third entry that stays, before the count. -/
theorem witness_MarkActionsComeBeforeOrAfterALaterFiring :
    let s := goUp (sched0 (fun c => { c with active := c.active ++ [entry 3 9] }) marked)
    s.phase = .running ∧ (s.sched 0).state = .running ∧ (s.axis 0).ref = .referenced ∧
    counts s .up (some (.linear 5)) ∧ (s.sched 0).commit = none ∧ ((s.sched 0).active.map Entry.tag).Nodup ∧
    ((s.sched 0).active.filter (Entry.firesAt (.linear 5) .up)).map (fun e => (e.tag, e.mark)) = [(1, 1), (2, 0)] ∧
    (∀ i, (s.route i).hit (.mark 0 0) = false) ∧ (0 : RouteId) < 1 ∧
    (∀ i ∈ [(0, OutAction.set), (1, .toggle)], (s.route i.1).enable = true ∧ (s.route i.1).source = some (.mark 0 1) ∧
      (s.route i.1).action = some (.output 2 i.2) ∧ (s.route i.1).counter + 1 = (s.route i.1).divider) ∧
    (∀ i, i ≠ 0 → i ≠ 1 → (s.route i).hit (.mark 0 1) = false) ∧ (s.sched 0).active ≠ [] := by decide +kernel

/-- The actions a route can have, at the ends of their ranges. -/
def routeActions : List RouteAction := [.start 0, .stop 0, .commit 0, .capture 15#4, .output 7 .set]

/-- The last entry retires with a route on SCHED_DONE(0); and tag 2 with mark 1 fires beside tag 3 with a route on the
mark. An AT_TRIGGER commit is pending or none, and the new list is empty or not. -/
theorem witness_WaitingRouteActionsFollowTheCount :
    ∀ new ∈ [[], [entry 4 9]], ∀ cm ∈ [none, some (PendingCommit.atTrigger true)], ∀ a ∈ routeActions,
      (let s := route3 (.schedDone 0) a (sched0 (fun c => { c with commit := cm, staging := new })
         (firing [shot .once true]))
       s.phase = .running ∧ (s.sched 0).state = .running ∧ (s.axis 0).ref = .referenced ∧
       counts s .up (some (.linear 5)) ∧ (s.sched 0).commit = cm ∧
       ((s.sched 0).active.map Entry.tag).Nodup ∧ (∀ i m, (s.route i).hit (.mark 0 m) = false) ∧
       (s.route 3).enable = true ∧ (s.route 3).source = some (.schedDone 0) ∧ (s.route 3).action = some a ∧
       (s.route 3).counter + 1 = (s.route 3).divider ∧ (∀ i, i ≠ 3 → (s.route i).hit (.schedDone 0) = false) ∧
       listAfter (Entry.firesAt (.linear 5) .up) (s.sched 0).active = []) ∧
      (let s := route3 (.mark 0 1) a (sched0 (fun c => { c with commit := cm, staging := new })
         (firing [shot .repeated true, entry 3 9]))
       s.phase = .running ∧ (s.sched 0).state = .running ∧ (s.axis 0).ref = .referenced ∧
       counts s .up (some (.linear 5)) ∧ (s.sched 0).commit = cm ∧
       ((s.sched 0).active.map Entry.tag).Nodup ∧
       (s.sched 0).active.filter (Entry.firesAt (.linear 5) .up) = [shot .repeated true] ∧
       (shot .repeated true).mark ≠ 0 ∧ (s.route 3).enable = true ∧ (s.route 3).source = some (.mark 0 1) ∧
       (s.route 3).action = some a ∧ (s.route 3).counter + 1 = (s.route 3).divider ∧
       (∀ i, i ≠ 3 → (s.route i).hit (.mark 0 1) = false) ∧ (∀ i, (s.route i).hit (.schedDone 0) = false)) := by
  decide +kernel

/-- The OUTPUT_ACTION bytes for OUT0: the five kinds. -/
def actionBytes (a : OutAction) : List Byte := [byteOf 0, byteOf a.code] ++ a.params
def actions : List OutAction := [.set, .clear, .toggle, .timed (.pulse 5), .timed (.train 4 2 10)]

theorem witness_FreeLineTakesTheAction :
    (∀ a ∈ actions, Asks 0x31#8 (actionBytes a) base ∧ (actionBytes a).length = 8 ∧
      readOutputAction base (actionBytes a) = some (0, a)) ∧
    base.safe = false ∧ (base.line 0).running = none ∧ (base.line 0).lastPulseEnd = none ∧
    (let s := { line0 (fun x => { x with lastPulseEnd := some 0 }) base with now := 10 }
     (s.line 0).running = none ∧ (s.line 0).lastPulseEnd = some 0 ∧ 0 + 10 ≤ s.now) ∧
    (let s := { line0 (fun x => { x with lastPulseEnd := some 1 }) base with now := 10 }
     (s.line 0).running = none ∧ (s.line 0).lastPulseEnd = some 1 ∧ s.now < 1 + 10) := by
  refine ⟨?_, by decide +kernel⟩
  intro a ha
  fin_cases ha <;> exact ⟨asks _ _ rfl rfl rfl, by decide +kernel, by decide +kernel⟩

/-- OUT0 running a PULSE in ACTIVE under a policy. -/
def occupied (p : Policy) (w : Option OutAction) : State :=
  line0 (fun x => { x with policy := p, running := some ⟨.pulse 20, .active, 1, 200⟩, waiting := w }) base

/-- OUT0 under PREEMPT in a phase, its last pulse having ended at a moment; now is 10. -/
def preempted (p : LinePhase) (ended : Option Nat) : State :=
  { line0 (fun x => { x with
      policy := .preempt, running := some ⟨.train 4 3 10, p, 2, 99⟩, lastPulseEnd := ended }) base with now := 10 }

theorem witness_OccupiedLineFollowsItsPolicy :
    (∀ s ∈ [occupied .queue none, occupied .queue (some .set), occupied .drop none, occupied .preempt none,
        preempted .lead (some 1), preempted .gap (some 1), preempted .gap (some 0), preempted .lead none],
      ∀ a ∈ actions, Asks 0x31#8 (actionBytes a) s ∧ (actionBytes a).length = 8 ∧
        readOutputAction s (actionBytes a) = some (0, a) ∧ s.safe = false ∧ (s.line 0).running ≠ none) ∧
    ((occupied .queue none).line 0).waiting = none ∧ ((occupied .queue (some .set)).line 0).waiting ≠ none ∧
    (∀ p ∈ [LinePhase.lead, .gap], ((preempted p (some 1)).line 0).lastPulseEnd = some 1 ∧
      (preempted p (some 1)).now < 1 + 10 ∧ 0 + 10 ≤ (preempted p (some 0)).now) := by
  refine ⟨?_, rfl, by decide +kernel, by decide +kernel⟩
  intro s hs a ha
  fin_cases hs <;> fin_cases ha <;>
    exact ⟨asks _ _ rfl rfl rfl, by decide +kernel, by decide +kernel, rfl, by decide +kernel⟩

theorem witness_IssuedActionsMeetTheLineLikeRequests :
    (∀ s ∈ [base, occupied .drop none], ∀ a ∈ actions, Asks 0x31#8 (actionBytes a) s ∧ (actionBytes a).length = 8 ∧
      readOutputAction s (actionBytes a) = some (0, a) ∧ s.safe = false) ∧ { base with safe := true }.safe = true := by
  refine ⟨?_, rfl⟩
  intro s hs a ha
  fin_cases hs <;> fin_cases ha <;> exact ⟨asks _ _ rfl rfl rfl, by decide +kernel, by decide +kernel, rfl⟩

theorem witness_StopConfigAndSafeEndTheActionsAndThePinFollows :
    Asks 0x32#8 [byteOf 0] (occupied .queue (some .set)) ∧
    (Asks 0x30#8 [byteOf 0, levelCode .high, levelCode .low, Policy.drop.code, flagByte false] base ∧ base.safe = false) ∧
    (let s := { base with safe := true }
     Asks 0x30#8 [byteOf 0, levelCode .high, levelCode .low, Policy.drop.code, flagByte false] s ∧ s.safe = true ∧
     Asks 0x31#8 (actionBytes .set) s ∧ readOutputAction s (actionBytes .set) = some (0, .set) ∧
     Asks 0x34#8 [] s ∧ Asks 0x35#8 [] s) ∧
    Asks 0x34#8 [] base ∧ Asks 0x35#8 [] base ∧ (base.line 0).running = none ∧
    ((occupied .queue none).line 0).running = some ⟨.pulse 20, .active, 1, 200⟩ :=
  ⟨asks _ _ rfl rfl rfl, ⟨asks _ _ rfl rfl rfl, rfl⟩,
    ⟨asks _ _ rfl rfl rfl, rfl, asks _ _ rfl rfl rfl, by decide +kernel, asks _ _ rfl rfl rfl, asks _ _ rfl rfl rfl⟩,
    asks _ _ rfl rfl rfl, asks _ _ rfl rfl rfl, rfl, rfl⟩

/-- OUT0 in a phase of a TRAIN of two pulses with an action waiting. -/
def phased (p : LinePhase) (left : Nat) (w : Option OutAction) : State :=
  line0 (fun x => { x with running := some ⟨.train 4 2 10, p, left, 40⟩, waiting := w }) base

theorem witness_PhasesEndAtTheirMoments :
    (∀ p ∈ [LinePhase.lead, .gap, .active], ∀ left ∈ [1, 2], ∀ w ∈ [none, some OutAction.toggle, some .set, some .clear, some (.timed (.pulse 5))],
      (phased p left w).phase = .running ∧ ((phased p left w).line 0).running = some ⟨.train 4 2 10, p, left, 40⟩ ∧
        ((phased p left w).line 0).waiting = w) ∧ 1 < 2 ∧ 1 ≤ 1 := by decide +kernel

theorem witness_TrainLastsCountPeriodsAndAWidth :
    let a := OutAction.timed (.train 4 (0 + 2) 10)
    Asks 0x31#8 (actionBytes a) base ∧ (actionBytes a).length = 8 ∧ readOutputAction base (actionBytes a) = some (0, a) ∧
    base.safe = false ∧ (base.line 0).running = none ∧ (base.line 0).waiting = none ∧
    (base.line 0).lastPulseEnd = none :=
  ⟨asks _ _ rfl rfl rfl, by decide +kernel, by decide +kernel, rfl, rfl, rfl, rfl⟩

/-- TRIG0 with these settings and a filter of 100 ns; its line changes at these moments. -/
def input (sel : EdgeSelection) (level : Level) (hold : Option Nat) (w : List Nat) : State :=
  wire0 w (trig0 (fun k =>
    { k with selection := sel, level := level, holdoffEnd := hold, holdoff := 100, filter := 1 }) base)

/-- Held for exactly 100 ns, and returning a tick before. -/
theorem witness_TriggerFilterSelectionAndHoldoff :
    (∀ w ∈ [[0, 10], [0, 9], []], ∀ s ∈ [input .off .low none w, input .rise .high none w, input .rise .low none w,
        input .both .high (some 9) w, input .fall .high none w],
      s.phase = .running ∧ (∀ r, (s.route r).hit (.trig 0 .rise) = false ∧ (s.route r).hit (.trig 0 .fall) = false) ∧
      (∀ n, (s.axis n).homing.source = .index ∨ (s.axis n).homing.input ≠ 0) ∧ s.triggerWire 0 = w ∧
      (s.trigger 0).filter * 10 = 10) ∧
    heldEdge 10 [0, 10] = some ⟨10, [10]⟩ ∧ heldEdge 10 [0, 9] = none ∧ rejectedReturn 10 [0, 9] = some ⟨9, []⟩ ∧
    rejectedReturn 10 [0, 10] = some ⟨10, []⟩ ∧ rejectedReturn 10 [0, 11] = none ∧
    ((input .rise .low none [0, 9]).trigger 0).selection ≠ .off ∧
    ((input .off .low none [0, 9]).trigger 0).selection = .off ∧
    ((input .both .high (some 9) []).trigger 0).holdoffEnd = some 9 := by decide +kernel

theorem witness_TriggerAndRouteConfigurationReplaces :
    Asks 0x40#8 [byteOf 0, EdgeSelection.both.code, 255#8, 255#8, 255#8] base ∧
    (let x : Route := ⟨true, some (.trig 2 .any), 256, 0, some (.start 1), 0, 0, 0⟩
     x.inRange ∧ Asks 0x42#8 (routeSetBytes 15 x) base) ∧
    Asks 0x43#8 [byteOf 15] base :=
  ⟨asks _ _ rfl rfl rfl, ⟨⟨by decide, by rintro _ _ ⟨⟩, by decide, by decide, by decide, by rintro _ ⟨⟩,
    by rintro _ _ ⟨⟩, rfl, rfl, rfl, rfl⟩, asks _ _ rfl rfl rfl⟩, asks _ _ rfl rfl rfl⟩

/-- TRIG0 takes a rising edge now with these routes 0 and 1. -/
def routed (x y : Route) : State :=
  { takes .both 100 (sched0 (fun c => { c with active := [entry 1 5] }) (at_ 0 base)) with
    routes := (State.reset.routes.set 0 x).set 1 y }

/-- A rising edge of TRIG0 is held, selected and outside a holdoff, and no axis homes on it. -/
def edgeAccepted (s : State) : Bool :=
  (heldEdge ((s.trigger 0).filter * 10) (s.triggerWire 0)).isSome && decide (s.phase = .running) &&
    decide ((s.trigger 0).selection = .both) && decide ((s.trigger 0).level = .low) &&
    decide ((s.trigger 0).holdoffEnd = none) && Config.allAxes.all fun n => decide ((s.axis n).homing.source = .index)

/-- Route 0 does not match, only matches, acts; route 1 is shadowed. -/
theorem witness_AcceptedEdgeCountsItsRoutes :
    let s := routed ⟨true, some (.trig 0 .any), 1, 0, some (.start 0), 0, 0, 0⟩ ⟨true, some (.trig 0 .rise), 1, 0, some (.stop 0), 0, 0, 0⟩
    let u := routed ⟨true, some (.trig 0 .any), 2, 0, some (.start 0), 0, 0, 0⟩ ⟨true, some (.trig 0 .fall), 1, 0, some (.stop 0), 0, 0, 0⟩
    (∀ t ∈ [s, u], edgeAccepted t ∧ ∀ n r, (t.route r).hit (.schedDone n) = false) ∧
    (s.route 0).acts (.trig 0 .rise) = true ∧ (s.route 1).acts (.trig 0 .rise) = true ∧
    (s.route 1).target = some 0 ∧ (s.route 0).target = some 0 ∧ (s.route 2).hit (.trig 0 .rise) = false ∧
    (u.route 0).hit (.trig 0 .rise) = true ∧ (u.route 0).counter + 1 ≠ (u.route 0).divider ∧
    (u.route 1).hit (.trig 0 .rise) = false := by decide +kernel

/-- A rising edge under ANY and RISE, and a falling one under ANY and FALL. -/
theorem witness_CaptureRouteRecordsThePositions :
    ∀ a ∈ [RouteAction.capture 15#4, .capture 1#4, .output 7 .set], ∀ src ∈ [RouteEdge.any, .rise, .fall],
      let falls := decide (src = .fall)
      let s := trig0 (fun k => { k with level := if falls then .high else .low })
        (routed ⟨true, some (.trig 0 src), 1, 0, some a, 0, 0, 0⟩ .reset)
      (heldEdge ((s.trigger 0).filter * 10) (s.triggerWire 0)).isSome ∧ s.phase = .running ∧
      (s.trigger 0).selection = .both ∧ (s.trigger 0).holdoffEnd = none ∧ (∀ n, (s.axis n).homing.source = .index) ∧
      (src = .any ∨ src = (match (s.trigger 0).level with | .low => .rise | .high => .fall)) ∧
      (s.route 0).enable = true ∧ (s.route 0).source = some (.trig 0 src) ∧
      (s.route 0).action = some a ∧ (s.route 0).counter + 1 = (s.route 0).divider ∧
      ∀ j, j ≠ 0 → (s.route j).hit (.trig 0 (s.trigger 0).edge) = false := by decide +kernel

/-- START, STOP and COMMIT over STOP, with no commit pending, with one on a STOPPED and on a RUNNING schedule, whose new list
is empty or not. -/
theorem witness_LowestNumberedRouteWinsTheSchedule :
    ∀ a ∈ [RouteAction.start 0, .stop 0, .commit 0], ∀ st ∈ [SchedState.stopped, .running],
      ∀ cm ∈ [none, some (PendingCommit.atTrigger true)], ∀ new ∈ [[], [entry 8 1]], ∀ src ∈ [RouteEdge.any, .rise],
      let s := sched0 (fun c => { c with state := st, commit := cm, staging := new })
        (routed ⟨true, some (.trig 0 src), 1, 0, some a, 0, 0, 0⟩ ⟨true, some (.trig 0 src), 1, 0, some (.stop 0), 0, 0, 0⟩)
      edgeAccepted s ∧ (0 : RouteId) < 1 ∧ (s.route 0).action = some a ∧ (s.route 1).action = some (.stop 0) ∧
      (∀ r ∈ [0, 1], (s.route r).enable = true ∧ (s.route r).source = some (.trig 0 src) ∧
        (s.route r).counter + 1 = (s.route r).divider) ∧
      (∀ h, h ≠ 0 → h ≠ 1 → (s.route h).hit (.trig 0 .rise) = false) ∧
      (∀ h, (s.route h).hit (.schedDone 0) = false) ∧ (s.sched 0).state = st ∧ (s.sched 0).commit = cm ∧
      (s.sched 0).active ≠ [] ∧ (s.axis 0).ref = .referenced := by decide +kernel

/-- Every kind of event with a route on it, and with none; a COMMIT meets a RUNNING schedule and leaves it without entries. -/
theorem witness_SourceEventsReachTheirRoutes :
    ∀ p ∈ [(EventSource.trig 5 .rise, RouteSource.trig 5 .any), (.trig 5 .fall, .trig 5 .any),
        (.trig 0 .rise, .trig 0 .rise), (.trig 0 .fall, .trig 0 .fall), (.index 3, .index 3), (.mark 1 3, .mark 1 3),
        (.axisLost 0, .axisLost 0), (.schedDone 2, .schedDone 2)],
      (∀ i, (base.route i).hit p.1 = false) ∧ ∀ a ∈ routeActions,
      let s := route3 p.2 a (sched0 (fun c => { c with
        state := .running, commit := some (.atTrigger true), active := [entry 1 5] }) (at_ 0 base))
      (s.route 3).hit p.1 = true ∧ (s.route 3).enable = true ∧ (s.route 3).source = some p.2 ∧
      (s.route 3).action = some a ∧ (s.route 3).counter + 1 = (s.route 3).divider ∧
      (∀ j, j ≠ 3 → (s.route j).hit p.1 = false) ∧ (s.sched 0).commit = some (.atTrigger true) ∧
      ∀ i, (s.route i).hit (.schedDone 0) = false := by decide +kernel

/-- The axis sets 1 and 15, at 0, 255 and 256 records, and the enables. -/
theorem witness_CaptureNowAdmitsOrLosesByTheQueue :
    (∀ b ∈ [1#8, 15#8], ∀ s ∈ [base, holding 1 255 base, holding 1 256 base],
      Asks 0x50#8 [b] s ∧ b ≠ 0#8 ∧ b.toNat < 16) ∧
    base.queue.records.length < 256 ∧ (holding 1 255 base).queue.records.length < 256 ∧
    256 ≤ (holding 1 256 base).queue.records.length ∧
    Asks 0x51#8 [flagByte true, flagByte false, flagByte true, flagByte false] base ∧
    (Asks 0x51#8 [0#8, 0#8, 0#8, 2#8] base ∧ 1 < (2#8).toNat) := by
  refine ⟨?_, by decide, by decide +kernel, by decide +kernel, asks _ _ rfl rfl rfl, asks _ _ rfl rfl rfl, by decide⟩
  intro b hb s hs
  fin_cases hb <;> fin_cases hs <;> exact ⟨asks _ _ rfl rfl rfl, by decide, by decide⟩

theorem witness_DeliveryConfigAndFetchMoveTheSendPoint :
    (∀ m ∈ [DeliveryMode.stream, .poll], Asks 0x53#8 [m.code, 1#8, 0#8, 10#8] base ∧
      Asks 0x53#8 [m.code, 16#8, 0x27#8, 0x10#8] base) ∧
    (16#8 : Byte).toNat ≤ 16 ∧ (0x27#8 : Byte).toNat * 256 + (0x10#8 : Byte).toNat ≤ 10000 ∧
    Asks 0x54#8 [1#8] base ∧ base.delivery.mode = .stream ∧
    Asks 0x54#8 [16#8] (delivered (fun d => { d with mode := .poll }) base) ∧
    (let s := holding 1 20 (delivered (fun d => { d with window := 16 }) base)
     fetchCount 16 s = 11 ∧ 11 < 16 ∧ 11 < s.delivery.window ∧ 11 < s.queue.records.length) ∧
    (∀ x ∈ (holding 1 20 base).queue.records, x.item.positions.length ≤ 4) ∧
    1 ≤ base.delivery.window ∧ (holding 1 20 base).queue.records ≠ [] := by
  refine ⟨?_, by decide, by decide, asks _ _ rfl rfl rfl, rfl, asks _ _ rfl rfl rfl, by decide +kernel⟩
  intro m hm
  fin_cases hm <;> exact ⟨asks _ _ rfl rfl rfl, asks _ _ rfl rfl rfl⟩

/-- The keepalive timer runs in a session with a loss action. -/
def expiring (l : LossAction) : State :=
  linked (fun k => { k with session := some ⟨500, l⟩, keepalive := some 50000000 }) base

theorem witness_TimersExpireWithTheirEffects :
    (∀ n ∈ [0, 6, 7], let s := delivered (fun d => { d with timeouts := n, ackTimer := some 9 }) base
      s.phase = .running ∧ s.delivery.ackTimer = some 9) ∧
    ∀ l ∈ [LossAction.none, .safeOutputs, .safeAndStop], (expiring l).phase = .running ∧
      (expiring l).link.keepalive = some 50000000 ∧ (expiring l).link.session = some ⟨500, l⟩ := by decide +kernel

/-- Four records are held and the first two delivered. -/
def sent : State := points 503 503 (holding 501 4 base)

theorem witness_NoticesMoveDelivery :
    (∀ op ∈ [0x70#8, 0x71#8], ∀ n ∈ [501#32, 502#32, 503#32, 500#32],
      (let s := noticeComing op n sent
       LastByte s 8#8 ((noticeCrc op n).extractLsb' 8 8) ((noticeCrc op n).extractLsb' 0 8)
         (4#8 :: 0#8 :: op :: 0#8 :: wordBytes n)) ∧ wordBE (wordBytes n) = n ∧ (wordBytes n).length = 4) ∧
    (4#8 : Byte).toNat % 16 = 4 ∧ QueueInv sent.queue ∧ DeliveryInv sent ∧ Attached sent ∧
    sent.queue.distance 502#32 < sent.queue.distance sent.delivery.highMark ∧
    sent.queue.distance sent.delivery.highMark ≤ sent.queue.distance 503#32 ∧
    sent.queue.distance sent.delivery.highMark ≤ sent.queue.distance 500#32 := by
  refine ⟨?_, by decide, ⟨by decide, by decide +kernel, by decide⟩,
    ⟨by decide +kernel, by decide +kernel, by decide +kernel, by intro h; exact absurd h (by decide), ?_⟩, rfl,
    by decide +kernel, by decide +kernel, by decide +kernel⟩
  · intro op hop n hn
    fin_cases hop <;> fin_cases hn <;> exact ⟨⟨rfl, rfl, by decide +kernel⟩, by decide +kernel, by decide +kernel⟩
  · intro _; rfl

/-- A reply, HELLO and an offered record in turn; and a frame that leaves with each order. -/
theorem witness_TransmitterTakesByRankAndIsFreed :
    (∀ c ∈ [Closing.nothing, .sessionEnd], let s := linked (fun l => { l with replies := [⟨replyTo (req 2#8 []) .ok [], c⟩] }) base
      s.phase = .running ∧ s.link.transmitter = .free ∧ s.link.replies = [⟨replyTo (req 2#8 []) .ok [], c⟩]) ∧
    (let s := linked (fun l => { l with hello := some ⟨.cold, 1#32⟩ }) base
     s.link.replies = [] ∧ s.link.hello = some ⟨.cold, 1#32⟩ ∧ s.link.transmitter = .free) ∧
    (sent.phase = .running ∧ sent.link.replies = [] ∧ sent.link.hello = none ∧ sent.delivery.mode = .stream ∧
      sent.delivery.stalled = false ∧ sent.queue.distance sent.delivery.sendPoint < sent.delivery.window ∧
      sent.delivery.sendPoint ≠ sent.queue.next ∧
      (sent.queue.records[sent.queue.distance sent.delivery.sendPoint]?).map (·.seq) = some 503#32) ∧
    (let s := linked (fun l => { l with session := none }) base
     s.link.replies = [] ∧ s.link.hello = none ∧ s.link.session = none) ∧
    (∀ c ∈ [Closing.nothing, .sessionEnd, .rate .b921600], let s := linked (fun l => { l with transmitter := .sending [1#8] c }) base
      s.phase = .running ∧ s.link.transmitter = .sending [1#8] c) := by decide +kernel

theorem witness_CharactersMoveTheReceiver :
    (sampleCharacter (characterLevels 0xFF#8) = some (.characterReceived 0xFF#8) ∧
      sampleCharacter (List.replicate 10 .low) = some .characterError) ∧
    (base.phase = .running ∧ base.link.receiver = .hunt) ∧ 4 ≤ (4#8 : Byte).toNat ∧ (250#8 : Byte).toNat ≤ 250 ∧
    (3#8 : Byte).toNat < 4 ∧ 250 < (251#8 : Byte).toNat ∧
    ∀ v ∈ [Receiver.length, .body 4#8 [], .check 4#8 [1#8, 1#8, 2#8, 0#8] none],
      (linked (fun l => { l with receiver := v }) base).link.receiver = v ∧ v ≠ .hunt := by decide +kernel

/-- The last byte of a frame with this kind and op, the link attached or not, with `n` requests in the intake. -/
def lastByte (kind op : Byte) (n : Nat) (session : Option Session) : State :=
  linked (fun l => { l with
    receiver := .check 4#8 [kind, 9#8, op, 0#8] (some ((crc [4#8, kind, 9#8, op, 0#8]).extractLsb' 8 8))
    waiting := List.replicate n (req 2#8 []), session := session }) base

theorem witness_CheckedFramesGoWhereTheirKindSays :
    (∀ k ∈ [0x01#8, 0x81#8, 0x04#8, 0x02#8], ∀ op ∈ [0x70#8, 0x71#8, 0x02#8], ∀ n ∈ [0, 3, 4],
      LastByte (lastByte k op n none) 4#8 ((crc [4#8, k, 9#8, op, 0#8]).extractLsb' 8 8)
        ((crc [4#8, k, 9#8, op, 0#8]).extractLsb' 0 8) [k, 9#8, op, 0#8] ∧
      (lastByte k op n none).link.session = none ∧ (lastByte k op n none).link.waiting.length = n) ∧
    (0x81#8 : Byte).toNat % 16 = 1 ∧ (0x04#8 : Byte).toNat % 16 = 4 ∧ (0x02#8 : Byte).toNat % 16 ≠ 1 ∧
    0#8 ++ 0#8 ≠ crc [4#8, 1#8, 9#8, 2#8, 0#8] := by
  refine ⟨?_, by decide, by decide, by decide, by decide +kernel⟩
  intro k hk op ho n hn
  fin_cases hk <;> fin_cases ho <;> fin_cases hn <;> exact ⟨⟨rfl, rfl, by decide +kernel⟩, rfl, rfl⟩

theorem witness_RequestFrameSentIsReceivedWhole :
    base.phase = .running ∧ base.link.receiver = .hunt ∧ (List.replicate 246 0#8).length ≤ 246 ∧
      base.link.waiting.length + base.link.replies.length < 4 := by decide +kernel

theorem witness_SessionAndLinkRequestsOrderTheirEffect :
    (∀ l ∈ [LossAction.none, .safeOutputs, .safeAndStop], Asks 0x03#8 [0#8, 0#8, l.code] base ∧
      Asks 0x03#8 [0#8, 10#8, l.code] base ∧ Asks 0x03#8 [0xEA#8, 0x60#8, l.code] base) ∧
    (0xEA#8 : Byte).toNat * 256 + (0x60#8 : Byte).toNat = 60000 ∧ base.link.session ≠ none ∧
    (let s := linked (fun l => { l with session := none }) base
     Takes (asked 0x03#8 [0#8, 0#8, 0#8] s) (req 0x03#8 [0#8, 0#8, 0#8]) [] ∧ s.link.session = none) ∧
    Asks 0x04#8 [] base ∧ Asks 0x07#8 [] base ∧ Asks 0x05#8 [Baud.b3000000.code] base ∧ Asks 0x06#8 [flagByte true] base := by
  refine ⟨?_, by decide, by decide, ⟨⟨rfl, rfl, rfl, .inl rfl⟩, rfl⟩, asks _ _ rfl rfl rfl, asks _ _ rfl rfl rfl,
    asks _ _ rfl rfl rfl, asks _ _ rfl rfl rfl⟩
  intro l hl
  fin_cases hl <;> exact ⟨asks _ _ rfl rfl rfl, asks _ _ rfl rfl rfl, asks _ _ rfl rfl rfl⟩

theorem witness_ReadingRequestsReplyWithTheValuesHeld :
    Asks 0x01#8 [] base ∧ Asks 0x02#8 (List.replicate 246 7#8) base ∧ (List.replicate 246 7#8).length ≤ 246 ∧
    Asks 0x11#8 [byteOf 3] base ∧ Asks 0x29#8 [byteOf 3] base ∧
    (Asks 0x2A#8 [byteOf 0, flagByte true, 0#8, 9#8] staged ∧ (staged.sched 0).staging = [entry 8 1] ++ entry 9 2 :: [] ∧
      (entry 9 2).tag = (0#8 : Byte).toNat * 256 + (9#8 : Byte).toNat ∧ ∀ x ∈ [entry 8 1], x.tag ≠ (entry 9 2).tag) ∧
    (Asks 0x2A#8 [byteOf 0, flagByte false, 0#8, 9#8] staged ∧ ∀ e ∈ (staged.sched 0).active, e.tag ≠ 9) ∧
    Asks 0x33#8 [] base ∧ Asks 0x41#8 [byteOf 5] base ∧ Asks 0x44#8 [byteOf 15] base ∧ Asks 0x52#8 [] base ∧
    (let es := [{ entry 3 7 with armed := true }] ++ { entry 4 6 with armed := true } :: [{ entry 5 6 with armed := true }]
     ((at_ 5 base).axis 0).above 6 = some 1 ∧ ((turned 0#32 4095 base).axis 0).above 0 = some 1 ∧
     (∀ y ∈ [entry 3 7], ∀ d, ((at_ 5 base).axis 0).above y.position = some d → 1 < d) ∧
     ∀ e ∈ es, ((at_ 5 base).axis 0).below e.position = none) :=
  ⟨asks _ _ rfl rfl rfl, asks _ _ rfl rfl rfl, by decide +kernel, asks _ _ rfl rfl rfl, asks _ _ rfl rfl rfl,
    ⟨asks _ _ rfl rfl rfl, rfl, by decide, by decide⟩, ⟨asks _ _ rfl rfl rfl, by decide⟩, asks _ _ rfl rfl rfl,
    asks _ _ rfl rfl rfl, asks _ _ rfl rfl rfl, asks _ _ rfl rfl rfl, by decide +kernel, by decide +kernel,
    by
      intro y hy d hd
      simp only [List.mem_singleton] at hy
      subst hy
      exact Option.some.inj hd ▸ (by decide),
    by decide +kernel⟩

/-- Requests with one parameter just out of its range. -/
def badRequests : List (Instr × Byte × List Byte) :=
  [(.attach, 0x03#8, [0#8, 9#8, 0#8]), (.attach, 0x03#8, [0xEA#8, 0x61#8, 0#8]), (.attach, 0x03#8, [0#8, 0#8, 3#8]),
    (.axisConfig, 0x10#8, [0#8, 4#8, 0#8, 0#8, 0#8, 0#8, 0#8, 0#8, 4#8, 0#8, 0#8, 0#8, 0#8, 0#8, 0#8]),
    (.axisConfig, 0x10#8, [0#8, 0#8, 0#8, 0#8, 0#8, 0#8, 0#8, 0#8, 3#8, 0#8, 0#8, 0#8, 0#8, 0#8, 0#8]),
    (.axisConfig, 0x10#8, [0#8, 0#8, 0#8, 0#8, 0#8, 1#8, 0#8, 0#8, 1#8, 0#8, 0#8, 0#8, 0#8, 0#8, 0#8]),
    (.axisSetPosition, 0x12#8, [0#8, 0#8, 0#8, 0#8, 0#8, 0#8, 0#8, 16#8, 0#8]),
    (.axisSetPosition, 0x12#8, [0#8, 0#8, 0#8, 0#8, 0#8, 255#8, 255#8, 255#8, 255#8]),
    (.home, 0x13#8, [0#8, 1#8, 6#8, 0#8, 0#8, 0#8, 0#8, 0#8]), (.home, 0x13#8, [0#8, 0#8, 6#8, 3#8, 0#8, 0#8, 0#8, 0#8]),
    (.stageAdd, 0x20#8, [0#8, 0#8]),
    (.stageAdd, 0x20#8, [0#8, 2#8] ++ (entry 9 4095).encode ++ (entry 8 4096).encode),
    (.stageAdd, 0x20#8, [0#8, 1#8] ++ ({ entry 9 1 with action := some (7, .timed (.train 9 2 9)) } : Entry).encode),
    (.stageRemove, 0x21#8, [0#8, 0#8, 0#8]), (.schedConfig, 0x24#8, [0#8, 0#8, 0#8]),
    (.commit, 0x25#8, commitBytes 0 (.atPosition 4096) true), (.commit, 0x25#8, [0#8, 4#8, 0#8, 0#8, 0#8, 0#8, 0#8]),
    (.entryRead, 0x2A#8, [0#8, 2#8, 0#8, 1#8]), (.outputConfig, 0x30#8, [0#8, 0#8, 0#8, 3#8, 0#8]),
    (.outputAction, 0x31#8, [0#8, 1#8, 0#8, 0#8, 0#8, 0#8, 0#8, 0#8]),
    (.outputAction, 0x31#8, [0#8, 5#8, 0#8, 1#8, 0#8, 1#8, 0#8, 2#8]), (.triggerConfig, 0x40#8, [0#8, 4#8, 0#8, 0#8, 0#8]),
    (.routeSet, 0x42#8, [0#8, 1#8, 3#8, 0#8, 4#8, 0#8, 1#8, 2#8, 0#8, 0#8, 0#8, 0#8, 0#8, 0#8, 0#8, 0#8]),
    (.routeSet, 0x42#8, [0#8, 1#8, 2#8, 0#8, 0#8, 1#8, 1#8, 2#8, 0#8, 0#8, 0#8, 0#8, 0#8, 0#8, 0#8, 0#8]),
    (.routeSet, 0x42#8, [0#8, 1#8, 2#8, 0#8, 0#8, 0#8, 1#8, 5#8, 0#8, 6#8, 0#8, 0#8, 0#8, 0#8, 0#8, 0#8]),
    (.deliveryConfig, 0x53#8, [0#8, 17#8, 0#8, 10#8]), (.deliveryConfig, 0x53#8, [0#8, 16#8, 0#8, 9#8]),
    (.syncArm, 0x62#8, [0#8, 0#8, 0#8, 0#8, 0#8, 0#8, 3#8])]

/-- R203: each of them is refused. -/
theorem test_parameters_just_out_of_range : ∀ p ∈ badRequests,
    after p.1 (asked p.2.1 p.2.2 (turned 0#32 0 base)) (fun t => answer t == some (.badParam, [])) = true := by
  decide +kernel

theorem witness_WrongRequestsAreRefusedAndChangeNothing :
    (let s := linked (fun l => { l with session := none }) base
     Takes (asked RequestOp.detach.code [] s) (req RequestOp.detach.code []) [] ∧ s.link.session = none ∧
     requestOf .detach = some .detach) ∧
    (Asks RequestOp.axisRead.code [] base ∧ requestOf .axisRead = some .axisRead ∧
      RequestOp.axisRead.fixedLength = some 1 ∧ ([] : List Byte).length ≠ 1) ∧
    (Asks 0x20#8 [0#8] base ∧ ([0#8] : List Byte).length < 2 ∧ Asks 0x20#8 [0#8, 1#8] base ∧
      ([] : List Byte).length ≠ 14 * (1#8 : Byte).toNat) ∧
    (Asks 0x80#8 [] base ∧ ∀ c : RequestOp, c.code ≠ 0x80#8) ∧
    (Asks RequestOp.axisRead.code [4#8] base ∧ Asks RequestOp.outputStop.code [8#8] base ∧
      Asks RequestOp.triggerRead.code [6#8] base ∧ Asks RequestOp.routeRead.code [16#8] base ∧
      Asks RequestOp.captureNow.code [0#8] base ∧ Asks RequestOp.captureNow.code [16#8] base ∧
      Asks RequestOp.fetch.code [0#8] base ∧ Asks RequestOp.fetch.code [17#8] base ∧
      Asks RequestOp.linkStats.code [2#8] base ∧ Asks RequestOp.linkConfig.code [6#8] base) ∧
    (∀ p ∈ badRequests, Asks p.2.1 p.2.2 (turned 0#32 0 base)) ∧
    (((turned 0#32 0 base).axis 0).position.mode = .rotary ∧ ((turned 0#32 0 base).axis 0).config.cpr = 4096) :=
  ⟨⟨⟨rfl, rfl, rfl, .inl rfl⟩, rfl, rfl⟩, ⟨asks _ _ rfl rfl rfl, rfl, rfl, by decide⟩,
    ⟨asks _ _ rfl rfl rfl, by decide, asks _ _ rfl rfl rfl, by decide⟩,
    ⟨asks _ _ rfl rfl rfl, by intro c; cases c <;> decide⟩,
    ⟨asks _ _ rfl rfl rfl, asks _ _ rfl rfl rfl, asks _ _ rfl rfl rfl, asks _ _ rfl rfl rfl, asks _ _ rfl rfl rfl,
      asks _ _ rfl rfl rfl, asks _ _ rfl rfl rfl, asks _ _ rfl rfl rfl, asks _ _ rfl rfl rfl, asks _ _ rfl rfl rfl⟩,
    fun _ _ => asks _ _ rfl rfl rfl, rfl, rfl⟩

/-- A retried PING whose tag is in the cache between two others, with its fingerprint and with another. -/
def cached (tag : Byte) (f : Word16) : CacheEntry := ⟨tag, f, ⟨tag, 2#8, .ok, [], false⟩⟩
def pingAgain : Request := ⟨true, 1#8, RequestOp.ping.code, [], 0xBFEC#16⟩
def retried (f : Word16) : State :=
  linked (fun l => { l with
    waiting := [pingAgain], cache := [cached 2#8 0#16] ++ cached 1#8 f :: [cached 3#8 0#16] }) base

theorem witness_RetryIsServedFromTheCache (f : Word16) :
    (retried f).phase = .running ∧ (retried f).link.hold = .none ∧ (retried f).link.waiting = pingAgain :: [] ∧
    requestOf .ping = some .ping ∧ pingAgain.op = RequestOp.ping.code ∧ pingAgain.retry = true ∧
    (retried f).link.cache = [cached 2#8 0#16] ++ cached 1#8 f :: [cached 3#8 0#16] ∧
    (cached 1#8 f).tag = pingAgain.tag ∧ ([2#8, 1#8, 3#8] : List Byte).Nodup ∧
    (retried f).link.cache.map CacheEntry.tag = [2#8, 1#8, 3#8] ∧ (retried f).link.cache.length ≤ 8 :=
  ⟨rfl, rfl, rfl, rfl, rfl, rfl, rfl, rfl, by decide, rfl, (by decide : 3 ≤ 8)⟩

/-- A busy part: AX0 REFERENCED with a running list, a pending commit and a staging list, OUT0 with a waiting action,
four records, two of them delivered, a cached reply, and a SCHED_STOP that waits. -/
def busy : State :=
  { asked 0x28#8 [0#8] (line0 (fun x => { x with
      running := some ⟨.pulse 20, .active, 1, 200⟩, waiting := some .toggle })
    (sched0 (fun c => { c with
      state := .running, commit := some (.atTrigger true)
      active := [{ entry 1 5 with armed := true }, entry 2 5], staging := [entry 8 1, entry 9 2] })
    (at_ 4 (linked (fun l => { l with cache := [⟨6#8, 0#16, ⟨6#8, 2#8, .ok, [], false⟩⟩] }) sent)))) with
    free := 508, pending := [.schedStop] }

theorem witness_steps_complete : ∃ t, step busy = .next t := ⟨_, rfl⟩

theorem witness_PoolCountIsKept : PoolInv busy := by unfold PoolInv; decide +kernel

theorem witness_ListsStayInOrder : ListsInv busy := by unfold ListsInv ListOk; decide +kernel

theorem witness_RunningScheduleHasAReferencedAxisAndEntries :
    RunningInv busy ∧ (busy.sched 0).state = .running := by unfold RunningInv; decide +kernel

theorem witness_OccupationOfTheLinesIsKept : OutputInv busy ∧ (busy.line 0).waiting ≠ none := by
  unfold OutputInv; decide +kernel

theorem witness_RecordNumbersStayConsecutive : QueueInv busy.queue := by unfold QueueInv; decide +kernel

theorem witness_DeliveryPointersStayInOrder : QueueInv busy.queue ∧ DeliveryInv busy := by
  unfold QueueInv DeliveryInv; decide +kernel

theorem witness_CacheAndIntakeStayBounded : CacheInv busy ∧ busy.link.cache ≠ [] ∧ IntakeInv busy := by
  unfold CacheInv IntakeInv; decide +kernel

/-- The greatest LINEAR position, the last angle of the greatest CPR, and lines with changes past and to come. -/
theorem witness_PositionsStayInRangeAndLineChangesInOrder :
    PositionsInv busy ∧ PositionsInv (at_ 2147483647 busy) ∧
    PositionsInv (axis0 (fun a => { a with
      position := .rotary 0#32 16777215, config := { a.config with cpr := 16777216 } }) busy) ∧
    WiresInv (lines0 [0, 1, 5] [3] [] (wire0 [2, 4] (sync0 [7] busy))) := by
  refine ⟨?_, ?_, ?_, by unfold WiresInv Wires.Rising; decide +kernel⟩ <;> intro n <;> fin_cases n <;>
    exact ⟨by decide +kernel, by decide +kernel, by first | exact ⟨by decide, by decide⟩ | exact (by decide : (16777215 : Nat) < 16777216)⟩

theorem witness_StagingIsFrozenWhileACommitPends : (busy.sched 0).commit ≠ none := by decide +kernel

/-- SCHED_STOP, the two resets, and the last byte of an ACK at a full queue with losses pending. -/
theorem witness_RecordsLeaveOnlyFromTheOldestEnd :
    (∃ t, exec .schedStop busy = .next t) ∧ QueueInv busy.queue ∧ Instr.schedStop ≠ .coldReset ∧
    Instr.schedStop ≠ .txFrameComplete ∧ (∃ t, exec .coldReset busy = .next t) ∧
    (let s := linked (fun l => { l with transmitter := .sending [] .warmReset }) busy
     s.phase = .running ∧ s.link.transmitter = .sending [] .warmReset ∧ QueueInv s.queue) ∧
    (let s := queued (fun q => { q with pendingLoss := 3 }) (holding 1 256 base)
     QueueInv s.queue ∧ ∃ t, exec (.frameReceived 0#8) s = .next t) :=
  ⟨⟨_, rfl⟩, by unfold QueueInv; decide +kernel, nofun, nofun, ⟨_, rfl⟩, ⟨rfl, rfl, by unfold QueueInv; decide +kernel⟩,
    by unfold QueueInv; decide +kernel, _, rfl⟩

theorem witness_RepliesLeaveInAcceptanceOrder :
    (∃ t, exec .txTakeFrame busy = .next t) ∧ Instr.txTakeFrame ≠ .coldReset ∧ Instr.txTakeFrame ≠ .txFrameComplete :=
  ⟨⟨_, rfl⟩, nofun, nofun⟩

theorem witness_AxesAreIndependent :
    (1 : AxisId) ≠ 0 ∧ (∀ c ∈ [Instr.countEvent 0 [], .quadratureError 0, .indexArrival 0, .decoderStateChange 0 .pair],
      ∃ t, exec c (goUp busy) = .next t) := by
  refine ⟨by decide, ?_⟩
  intro c h
  fin_cases h <;> exact ⟨_, rfl⟩

theorem witness_EventsNotAdmittedChangeNothing :
    base.nextPair 0 = none ∧ base.nextIndex 0 = none ∧ changesBoth (lines0 [0] [0] [] base) ∧
    !counts (lines0 [0] [0] [] base) .up (some (.linear 1)) ∧ (goUp base).nextPair 0 ≠ none ∧
    ((axis0 (fun a => { a with decoder := ⟨.low, .low, .high⟩ }) base).axis 0).decoder.index = .high ∧
    (base.line 0).running = none ∧ (base.trigger 0).holdoffEnd = none ∧ base.delivery.ackTimer = none ∧
    base.link.keepalive = none ∧ base.link.waiting = [] ∧ requestOf .ping = some .ping ∧
    { base with phase := .warmReset }.phase ≠ .running := by decide +kernel

end Sys2Proof.Tests
end

section
/-! SUPPORT and the settling of O14. The staging requests STAGE_REMOVE, STAGE_CLEAR and STAGE_COPY: what each does to
the staging list and to the free count, case by case, and how the dispatcher answers them with the staging counts. -/

namespace Sys2Proof.Machine

/-! ### The operands -/

/-- An axis number reads back from its byte. -/
theorem readAxis_byteOf (n : AxisId) : readAxis (byteOf n.val) = some n := by
  decide +revert

/-- The tag that two bytes carry. -/
theorem numBE_pair (b0 b1 : Byte) : numBE [b0, b1] = b0.toNat * 256 + b1.toNat := by
  simp [numBE]

/-- STAGE_REMOVE with tag 0 does not pass its check (R35, R203). -/
theorem readStageRemove_zero (s : State) (n : AxisId) {t0 t1 : Byte} (h : t0.toNat * 256 + t1.toNat = 0) :
    readStageRemove s [byteOf n.val, t0, t1] = none := by
  simp [readStageRemove, readAxis_byteOf, readRange, numBE_pair, h]

/-- Every other tag of two bytes passes it. -/
theorem readStageRemove_tag (s : State) (n : AxisId) {t0 t1 : Byte} (h : t0.toNat * 256 + t1.toNat ≠ 0) :
    readStageRemove s [byteOf n.val, t0, t1] = some (n, t0.toNat * 256 + t1.toNat) := by
  have range : 1 ≤ t0.toNat * 256 + t1.toNat ∧ t0.toNat * 256 + t1.toNat ≤ 65535 := by omega
  simp [readStageRemove, readAxis_byteOf, readRange, numBE_pair, range]

/-! ### What each request does -/

/-- The state with the staging list of axis n and the free count replaced. -/
def State.restage (n : AxisId) (f : Nat) (l : List Entry) (s : State) : State :=
  (s.setFree f).setSched n { s.sched n with staging := l }

/-- The counts of a reply after the list and the free count are replaced. -/
theorem stagingCounts_restage (n : AxisId) (f : Nat) (l : List Entry) (s : State) :
    stagingCounts n (s.restage n f l) = bytesBE 2 l.length ++ bytesBE 2 f := by
  simp [stagingCounts, State.restage]

section
variable {n : AxisId} {s : State}

theorem carryStageRemove_pending (tag : Nat) (h : (s.sched n).commit ≠ none) :
    carryStageRemove (n, tag) s = stagingAnswer n .wrongState s :=
  if_pos (Option.isSome_iff_ne_none.mpr h)

theorem carryStageRemove_absent {tag : Nat} (h : (s.sched n).commit = none)
    (ha : ∀ e ∈ (s.sched n).staging, e.tag ≠ tag) :
    carryStageRemove (n, tag) s = stagingAnswer n .noEntry s := by
  have absent : ((s.sched n).staging.any fun e => e.tag = tag) = false := by simpa using ha
  simp [carryStageRemove, h, absent]

/-- The first entry with the tag leaves the list, and its slot returns to the pool (R35). -/
theorem carryStageRemove_held {front back : List Entry} {e : Entry} (h : (s.sched n).commit = none)
    (hl : (s.sched n).staging = front ++ e :: back) (hf : ∀ x ∈ front, x.tag ≠ e.tag) :
    carryStageRemove (n, e.tag) s = stagingAnswer n .ok (s.restage n (s.free + 1) (front ++ back)) := by
  have held : ((s.sched n).staging.any fun x => x.tag = e.tag) = true := by simp [hl]
  have left : ((s.sched n).staging.eraseP fun x => x.tag = e.tag) = front ++ back := by
    rw [hl, List.eraseP_append_right _ (by simpa using hf), List.eraseP_cons_of_pos (by simp)]
  simp [carryStageRemove, State.restage, h, held, left]

theorem carryStageClear_pending (h : (s.sched n).commit ≠ none) :
    carryStageClear n s = stagingAnswer n .wrongState s :=
  if_pos (Option.isSome_iff_ne_none.mpr h)

/-- Every slot of the list returns to the pool (R36). -/
theorem carryStageClear_free (h : (s.sched n).commit = none) :
    carryStageClear n s =
      stagingAnswer n .ok (s.restage n (s.free + (s.sched n).staging.length) []) := by
  simp [carryStageClear, State.restage, h]

theorem carryStageCopy_pending (h : (s.sched n).commit ≠ none) :
    carryStageCopy n s = stagingAnswer n .wrongState s :=
  if_pos (Option.isSome_iff_ne_none.mpr h)

theorem carryStageCopy_noSpace (h : (s.sched n).commit = none)
    (hf : s.free + (s.sched n).staging.length < (s.sched n).active.length) :
    carryStageCopy n s = stagingAnswer n .noSpace s := by
  simp [carryStageCopy, h, hf]

/-- The copies take the place of the staging list, whose slots return to the pool first (R37). -/
theorem carryStageCopy_fits (h : (s.sched n).commit = none)
    (hf : (s.sched n).active.length ≤ s.free + (s.sched n).staging.length) :
    carryStageCopy n s = stagingAnswer n .ok
      (s.restage n (s.free + (s.sched n).staging.length - (s.sched n).active.length)
        ((s.sched n).active.map Entry.copy)) := by
  simp [carryStageCopy, State.restage, h, Nat.not_lt.mpr hf]

end

/-! ### How they are answered -/

section
variable {α : Type} {op : RequestOp} {read : State → List Byte → Option α} {carry : α → State → State × Answer}
  {s : State} {r : Request} {rest : List Request} {p : α} {n : AxisId} {status : Status}

/-- A staging request that is refused after the dispatch checks leaves everything but the answer as it was. -/
theorem dispatch_staging_refused (h : Takes s r rest) (ha : Attached s) (hop : r.op = op.code)
    (hu : uncached op.code = false) (hl : op.lengthOk r.payload = true)
    (hr : read (s.took rest) r.payload = some p)
    (hc : carry p (s.took rest) = stagingAnswer n status (s.took rest)) :
    dispatch op read carry s =
      s.replied r rest status (bytesBE 2 (s.sched n).staging.length ++ bytesBE 2 s.free) :=
  dispatch_carried h hop (.inr ha) hl hr hc hu

/-- A staging request that is carried out replaces the staging list of its axis and the free count. -/
theorem dispatch_staging_done {f : Nat} {l : List Entry} (h : Takes s r rest) (ha : Attached s)
    (hop : r.op = op.code) (hu : uncached op.code = false) (hl : op.lengthOk r.payload = true)
    (hr : read (s.took rest) r.payload = some p)
    (hc : carry p (s.took rest) = stagingAnswer n status ((s.took rest).restage n f l)) :
    dispatch op read carry s =
      State.replied { s with free := f, scheds := s.scheds.set n { s.sched n with staging := l } } r rest status
        (bytesBE 2 l.length ++ bytesBE 2 f) := by
  rw [← stagingCounts_restage n f l (s.took rest)]
  exact dispatch_carried h hop (.inr ha) hl hr hc hu

end

end Sys2Proof.Machine

namespace Sys2Proof.Proofs

open Sys2Proof.Machine

/-- Settles O14: each request passes the dispatch checks, and the owning block's cases, in their order, give the
answers. -/
theorem stagingRemovesClearsAndCopies : Obligations.StagingRemovesClearsAndCopies := by
  refine ⟨?remove, ?clear, ?copy⟩
  case remove =>
    intro s r rest n t0 t1 h ha hop hp tag counts
    have length : RequestOp.stageRemove.lengthOk r.payload = true := by rw [hp]; rfl
    have operands (ht : tag ≠ 0) : readStageRemove (s.took rest) r.payload = some (n, tag) := by
      rw [hp]; exact readStageRemove_tag _ n ht
    refine ⟨fun hz => ?zero, fun ht hc => ?pending, fun ht hc hn => ?absent, ?held⟩
    case zero =>
      have bad : readStageRemove (s.took rest) r.payload = none := by rw [hp]; exact readStageRemove_zero _ n hz
      exact congrArg Host.Outcome.next (dispatch_badParam h hop (.inr ha) length bad rfl)
    case pending =>
      exact congrArg Host.Outcome.next (dispatch_staging_refused h ha hop rfl length (operands ht)
        (carryStageRemove_pending tag hc))
    case absent =>
      exact congrArg Host.Outcome.next (dispatch_staging_refused h ha hop rfl length (operands ht)
        (carryStageRemove_absent hc hn))
    case held =>
      intro front back e ht hc hl he hf
      have done := carryStageRemove_held (s := s.took rest) hc hl (by rwa [he])
      rw [he] at done
      rw [← List.length_append]
      exact congrArg Host.Outcome.next (dispatch_staging_done h ha hop rfl length (operands ht) done)
  case clear =>
    intro s r rest n h ha hop hp
    have length : RequestOp.stageClear.lengthOk r.payload = true := by rw [hp]; rfl
    have operands : readAxisOnly (s.took rest) r.payload = some n := by rw [hp]; exact readAxis_byteOf n
    refine ⟨fun hc => ?pending, fun hc => ?free⟩
    case pending =>
      exact congrArg Host.Outcome.next (dispatch_staging_refused h ha hop rfl length operands
        (carryStageClear_pending hc))
    case free =>
      exact congrArg Host.Outcome.next (dispatch_staging_done h ha hop rfl length operands
        (carryStageClear_free hc))
  case copy =>
    intro s r rest n h ha hop hp
    have length : RequestOp.stageCopy.lengthOk r.payload = true := by rw [hp]; rfl
    have operands : readAxisOnly (s.took rest) r.payload = some n := by rw [hp]; exact readAxis_byteOf n
    refine ⟨fun hc => ?pending, fun hc hf => ?noSpace, fun hc hf => ?fits⟩
    case pending =>
      exact congrArg Host.Outcome.next (dispatch_staging_refused h ha hop rfl length operands
        (carryStageCopy_pending hc))
    case noSpace =>
      exact congrArg Host.Outcome.next (dispatch_staging_refused h ha hop rfl length operands
        (carryStageCopy_noSpace hc hf))
    case fits =>
      have done := dispatch_staging_done (op := .stageCopy) h ha hop rfl length operands (carryStageCopy_fits hc hf)
      rw [List.length_map] at done
      exact congrArg Host.Outcome.next done

end Sys2Proof.Proofs
end

section
/-! SUPPORT and the settling of O50. R55 says of every schedule what `Schedule.MayRun` says of one: while it is RUNNING,
its axis is REFERENCED and its active list is not empty. Within a count the list of the schedule that evaluates it can
run out before the schedule completes, so the relation that every operation keeps, `RunningBut`, excepts the list of a
busy schedule; with none busy it is R55's. -/

namespace Sys2Proof.Machine

/-! ### The relation -/

/-- R55 for the schedule of axis n, whose list may be empty while it is the busy one. -/
def Schedule.MayRun (busy : Option AxisId) (n : AxisId) (ref : RefState) (c : Schedule) : Prop :=
  c.state = .running → ref = .referenced ∧ (busy ≠ some n → c.active ≠ [])

/-- R55 for every schedule, where the list of a busy one may be empty. -/
def RunningBut (busy : Option AxisId) (s : State) : Prop := ∀ n, (s.sched n).MayRun busy n (s.axis n).ref

/-- With no schedule busy it is R55. -/
theorem runningBut_none {s : State} : RunningBut none s ↔ RunningInv s := by
  simp [RunningBut, Schedule.MayRun, RunningInv]

section
variable {busy : Option AxisId} {n : AxisId} {ref : RefState} {c c' : Schedule}

theorem Schedule.MayRun.of_not_running (h : c.state ≠ .running) : c.MayRun busy n ref := fun hr => absurd hr h

/-- A schedule in the same state with a list that is empty only if the old one was. -/
theorem Schedule.MayRun.of_same (h : c.MayRun busy n ref) (hs : c'.state = c.state)
    (ha : c'.active = [] → c.active = []) : c'.MayRun busy n ref := fun hr => by
  obtain ⟨href, hact⟩ := h (hs ▸ hr)
  exact ⟨href, fun hb he => hact hb (ha he)⟩

/-- While the schedule of axis n is busy only the reference state of axis n matters. -/
theorem Schedule.mayRun_busy : c.MayRun (some n) n ref ↔ (c.state = .running → ref = .referenced) := by
  simp [Schedule.MayRun]

theorem Schedule.MayRun.while_busy (h : c.MayRun busy n ref) : c.MayRun (some n) n ref :=
  Schedule.mayRun_busy.mpr fun hr => (h hr).1

theorem Schedule.MayRun.of_none (h : c.MayRun none n ref) : c.MayRun busy n ref := fun hr => by
  obtain ⟨href, hact⟩ := h hr
  exact ⟨href, fun _ => hact nofun⟩

end

/-! ### Rules for the replacement of a unit -/

section
variable {busy : Option AxisId} {n : AxisId} {s t : State}

theorem RunningBut.of_none (h : RunningBut none s) : RunningBut busy s := fun m => (h m).of_none

/-- An axis is replaced by one that is REFERENCED if it was. -/
theorem RunningBut.setAxis (h : RunningBut busy s) {x : Axis}
    (hx : (s.axis n).ref = .referenced → x.ref = .referenced) : RunningBut busy (s.setAxis n x) := by
  intro m hr
  obtain ⟨href, hact⟩ := h m hr
  by_cases hm : m = n
  · subst hm
    rw [State.setAxis_axis_same]
    exact ⟨hx href, hact⟩
  · rw [State.setAxis_axis_ne _ _ _ hm]
    exact ⟨href, hact⟩

/-- An operation on a schedule leaves the axes as they are. -/
theorem OnSchedule.axis_eq (ht : OnSchedule n s t) (m : AxisId) : t.axis m = s.axis m := by
  obtain ⟨_, _, _, _, rfl⟩ := ht
  rfl

/-- An operation on one schedule, which leaves that schedule as R55 allows. -/
theorem RunningBut.onSchedule (h : RunningBut busy s) (ht : OnSchedule n s t)
    (hn : (t.sched n).MayRun busy n (s.axis n).ref) : RunningBut busy t := by
  intro m
  rw [ht.axis_eq]
  by_cases hm : m = n
  · subst hm
    exact hn
  · rw [ht.sched_ne hm]
    exact h m

theorem RunningBut.setSched (h : RunningBut busy s) {c : Schedule} (hc : c.MayRun busy n (s.axis n).ref) :
    RunningBut busy (s.setSched n c) :=
  h.onSchedule ((OnSchedule.refl n s).setSched c) (by rwa [State.setSched_sched_same])

theorem RunningBut.recordIf (h : RunningBut busy s) (e : Bool) (i : Item) : RunningBut busy (s.produceIf e i) := by
  rw [State.produceIf_eq]
  exact h

/-- After a reset no schedule is RUNNING. -/
theorem RunningBut.of_reset (ht : t.scheds = State.reset.scheds) : RunningBut busy t := fun m =>
  .of_not_running (by simp [State.sched, ht, State.reset, Schedule.reset])

end

/-! ### What the operations on a schedule leave of it -/

section
variable (n : AxisId) (s : State)

@[simp] theorem schedRecord_sched (m : AxisId) (reason : SchedReason) : (schedRecord m reason s).sched n = s.sched n :=
  State.produceIf_sched s _ _ n

theorem armAll_eq_nil {a : Axis} {h : Nat} {es : List Entry} : armAll a h es = [] ↔ es = [] := List.map_eq_nil_iff

theorem rearm_eq_nil {a : Axis} {h : Nat} {es : List Entry} : rearm a h es = [] ↔ es = [] := List.map_eq_nil_iff

@[simp] theorem stopSchedule_state : ((stopSchedule n s).sched n).state = .stopped := by simp [stopSchedule]

theorem cancelCommit_state : ((cancelCommit n s).sched n).state = (s.sched n).state := by simp [cancelCommit]

theorem cancelCommit_active : ((cancelCommit n s).sched n).active = (s.sched n).active := by simp [cancelCommit]

/-- A departure notice leaves the schedule of its axis not RUNNING (R59). -/
theorem departure_not_running : ((departure n s).sched n).state ≠ .running := by
  have held : ((holdSchedule n s).sched n).state ≠ .running := by
    unfold holdSchedule
    split
    · simp
    · assumption
  unfold departure
  simp only
  split
  · rwa [cancelCommit_state]
  · exact held
  · exact held

@[simp] theorem installList_state (run : Bool) : ((installList n run s).sched n).state =
    stateAfterCommit (s.sched n).state (armAll (s.axis n) (s.sched n).h (s.sched n).staging) run
      (decide ((s.axis n).ref = .referenced)) := by simp [installList]

@[simp] theorem installList_active (run : Bool) : ((installList n run s).sched n).active =
    armAll (s.axis n) (s.sched n).h (s.sched n).staging := by simp [installList]

end

/-- A commit lets a schedule run only if it ran, or if it was STOPPED, has entries and its axis is REFERENCED
(Table 3-3). -/
theorem stateAfterCommit_running {old : SchedState} {new : List Entry} {run referenced : Bool}
    (h : stateAfterCommit old new run referenced = .running) :
    old = .running ∨ (referenced = true ∧ new ≠ []) := by
  cases old with
  | running => exact .inl rfl
  | held => cases h
  | stopped =>
    refine .inr ?_
    simp only [stateAfterCommit] at h
    split at h
    · simp_all
    · cases h

/-! ### What the operations on a schedule keep -/

section
variable {busy : Option AxisId} {n : AxisId} {s : State}

theorem startSchedule_runningBut (h : RunningBut busy s) : RunningBut busy (startSchedule n s) := by
  unfold startSchedule
  split
  · rename_i hs
    obtain ⟨-, hne, href⟩ := hs
    exact h.setSched fun _ => ⟨href, fun _ he => hne (armAll_eq_nil.mp he)⟩
  · exact h

theorem stopSchedule_runningBut (h : RunningBut busy s) : RunningBut busy (stopSchedule n s) :=
  h.setSched (.of_not_running nofun)

theorem cancelCommit_runningBut (h : RunningBut busy s) : RunningBut busy (cancelCommit n s) :=
  h.onSchedule (cancelCommit_frame n s)
    ((h n).of_same (cancelCommit_state n s) fun he => by rwa [cancelCommit_active] at he)

theorem jump_runningBut (h : RunningBut busy s) : RunningBut busy (jump n s) := by
  unfold jump
  split
  · exact h.setSched ((h n).of_same rfl armAll_eq_nil.mp)
  · exact h

theorem rearmSchedule_runningBut (h : RunningBut busy s) : RunningBut busy (rearmSchedule n s) :=
  h.setSched ((h n).of_same rfl rearm_eq_nil.mp)

/-- The schedule that evaluates a count may lose its last entry to a firing. -/
theorem finishFiring_runningBut (h : RunningBut (some n) s) (e : Entry) : RunningBut (some n) (finishFiring n e s) := by
  have ref := Schedule.mayRun_busy.mp (h n)
  unfold finishFiring
  exact RunningBut.setSched (s := s.setFree _) h (Schedule.mayRun_busy.mpr ref)

/-- The new list of a schedule that a commit leaves RUNNING may be empty only if the schedule was RUNNING (R67). -/
theorem installList_mayRun (run : Bool) (h : (s.sched n).MayRun busy n (s.axis n).ref)
    (hb : busy = some n ∨ (s.sched n).state ≠ .running) :
    ((installList n run s).sched n).MayRun busy n (s.axis n).ref := by
  intro hr
  rw [installList_state] at hr
  rw [installList_active]
  rcases stateAfterCommit_running hr with hrun | ⟨href, hne⟩
  · exact ⟨(h hrun).1, fun hn => (hb.elim hn fun hs => hs hrun).elim⟩
  · exact ⟨of_decide_eq_true href, fun _ => hne⟩

/-- A schedule that completes, if its list is empty, needs no exception any more (R61). -/
theorem completeIfEmpty_mayRun {ref : RefState} (h : (s.sched n).MayRun (some n) n ref) :
    ((completeIfEmpty n s).1.sched n).MayRun none n ref := by
  unfold completeIfEmpty
  split
  · exact .of_not_running (by simp)
  · rename_i hc
    exact fun hr => ⟨(h hr).1, fun _ he => hc ⟨hr, he⟩⟩

theorem completeIfEmpty_runningBut (h : RunningBut (some n) s) : RunningBut none (completeIfEmpty n s).1 := by
  intro m
  have frame := completeIfEmpty_frame n s
  rw [frame.axis_eq]
  by_cases hm : m = n
  · subst hm
    exact completeIfEmpty_mayRun (h m)
  · rw [frame.sched_ne hm]
    intro hr
    obtain ⟨href, hact⟩ := h m hr
    exact ⟨href, fun _ => hact (by simpa using Ne.symm hm)⟩

theorem takeCommit_runningBut (run : Bool) (h : RunningBut busy s) : RunningBut busy (takeCommit n run s).1 :=
  h.onSchedule (takeCommit_frame n run s)
    (completeIfEmpty_mayRun (installList_mayRun run (h n).while_busy (.inl rfl))).of_none

/-- A commit that a count reaches leaves a RUNNING schedule to complete at the end of the count (R62, R66). -/
theorem reachCommit_runningBut (h : RunningBut busy s) (hb : busy = some n ∨ (s.sched n).state ≠ .running) :
    RunningBut busy (reachCommit n s) := by
  unfold reachCommit
  split
  · split
    · exact h.onSchedule (installList_frame n _ s) (installList_mayRun _ (h n) hb)
    · exact h
  · exact h
  · exact h

theorem takeSchedAct_runningBut (act : SchedAct) (h : RunningBut busy s) :
    RunningBut busy (takeSchedAct n act s).1 := by
  cases act with
  | start => exact startSchedule_runningBut h
  | stop => exact stopSchedule_runningBut h
  | commit =>
    simp only [takeSchedAct, routeCommit]
    split
    · exact takeCommit_runningBut _ h
    · exact h
    · exact h

end

/-! ### Source events and counts -/

/-- Everything a route does keeps it. -/
theorem RunningBut.keptByRoutes (busy : Option AxisId) : KeptByRoutes busy (RunningBut busy) where
  routes := fun _ _ h => h
  record := fun _ _ h => h
  output := fun s l act h => by
    obtain ⟨_, _, _, he⟩ := issueAction_frame l act s
    rw [he]
    exact h
  schedule := fun _ _ act _ h => takeSchedAct_runningBut act h

theorem RunningBut.keptByFiring (n : AxisId) : KeptByFiring n (RunningBut (some n)) where
  toKeptByRoutes := RunningBut.keptByRoutes (some n)
  finish := fun _ e h => finishFiring_runningBut h e

theorem sendEvent_runningBut {s : State} (source : EventSource) (time : Ticks) (h : RunningBut none s) :
    RunningBut none (sendEvent source time s) :=
  (RunningBut.keptByRoutes none).sendEvents _ _ h

/-- The firings of a count may empty the list of its schedule; the completion at its end makes that good (R62). -/
theorem countNotice_runningBut {s : State} (n : AxisId) (dir : Dir) (takes : List Nat) (h : RunningBut none s) :
    RunningBut none (countNotice n dir takes s) := by
  unfold countNotice
  split
  · have fired := (RunningBut.keptByFiring n).fireAll dir ((s.sched n).active.filter ((s.axis n).fires dir)) takes
      (Work.of s []) h.of_none
    exact endOfCount_keeps (RunningBut.keptByRoutes none) _
      (completeIfEmpty_runningBut (reachCommit_runningBut (rearmSchedule_runningBut fired) (.inl rfl)))
  · rename_i hs
    exact reachCommit_runningBut h (.inr hs)

/-! ### The axes -/

section
variable {busy : Option AxisId} {n : AxisId} {s t : State}

theorem axisRecord_runningBut (reason : AxisReason) (h : RunningBut busy s) : RunningBut busy (axisRecord n reason s) :=
  h.recordIf _ _

/-- Whatever becomes of axis n, R55 holds after the departure that it sends if it was REFERENCED (R9, R59): the
schedule is then HELD, and otherwise it did not run. -/
theorem RunningBut.departIf (h : RunningBut busy s) (hs : t.scheds = s.scheds) (ha : ∀ m, m ≠ n → t.axis m = s.axis m) :
    RunningBut busy (departIf (s.axis n).ref n t) := by
  have sched : ∀ m, t.sched m = s.sched m := fun m => by simp only [State.sched, hs]
  unfold Machine.departIf
  split
  · intro m
    by_cases hm : m = n
    · subst hm
      exact .of_not_running (departure_not_running m t)
    · rw [(departure_frame n t).sched_ne hm, (departure_frame n t).axis_eq, sched, ha m hm]
      exact h m
  · rename_i hr
    intro m
    rw [sched]
    by_cases hm : m = n
    · subst hm
      exact .of_not_running fun hrun => hr (h m hrun).1
    · rw [ha m hm]
      exact h m

theorem enterLost_runningBut (reason : LostReason) (h : RunningBut none s) :
    RunningBut none (enterLost n reason s) := by
  refine sendEvent_runningBut _ _ (h.departIf ?_ fun m hm => ?_)
  · simp [axisRecord_eq]
  · rw [axisRecord_eq]
    exact State.setAxis_axis_ne _ _ _ hm

theorem takePair_runningBut (c : PairChange) (h : RunningBut busy s) : RunningBut busy (s.takePair n c) :=
  RunningBut.setAxis (s := (s.runTo c.time).setAxisWires n c.wires) h id

theorem takeIndex_runningBut (c : LineChange) (h : RunningBut busy s) : RunningBut busy (s.takeIndex n c) :=
  RunningBut.setAxis (s := (s.runTo c.time).setAxisWires n _) h id

theorem countEvent_runningBut (takes : List Nat) (h : RunningBut none s) : RunningBut none (countEvent n takes s) := by
  unfold countEvent
  split
  · exact h
  · split
    · unfold applyCount
      split
      · exact countNotice_runningBut _ _ _ ((takePair_runningBut _ h).setAxis id)
      · split
        · exact takePair_runningBut _ h
        · exact enterLost_runningBut _ (takePair_runningBut _ h)
    · exact h

theorem quadratureError_runningBut (h : RunningBut none s) : RunningBut none (quadratureError n s) := by
  unfold quadratureError
  split
  · exact h
  · rename_i c _
    split
    · have counted := (takePair_runningBut (n := n) c h).setAxis (n := n)
        (x := { (s.takePair n c).axis n with errors := inc16 ((s.takePair n c).axis n).errors }) id
      unfold countError
      simp only
      split
      · exact enterLost_runningBut _ counted
      · exact counted
    · exact h

theorem decoderChange_runningBut (lines : DecoderLines) (h : RunningBut none s) :
    RunningBut none (decoderChange n lines s) := by
  cases lines with
  | pair =>
    simp only [decoderChange, pairChange]
    split
    · exact h
    · split
      · exact h
      · exact takePair_runningBut _ h
  | index =>
    simp only [decoderChange, indexFall]
    split
    · exact takeIndex_runningBut _ h
    · exact h
    · exact h

theorem completeHoming_runningBut (h : RunningBut busy s) : RunningBut busy (completeHoming n s) :=
  jump_runningBut (axisRecord_runningBut _ (h.setAxis fun _ => rfl))

theorem homingIndex_runningBut (h : RunningBut busy s) : RunningBut busy (homingIndex n s) := by
  unfold homingIndex
  simp only
  split
  · split
    · exact completeHoming_runningBut h
    · exact h
  all_goals exact h

/-- An axis that waits for its gate is not REFERENCED, so its schedule does not run. -/
theorem homingEdge_runningBut (k : TriggerId) (h : RunningBut busy s) : RunningBut busy (homingEdge k s n) := by
  unfold homingEdge
  simp only
  split
  · rename_i hr _
    split
    · exact h.setAxis fun href => nomatch hr.symm.trans href
    · exact h
  · split
    · exact completeHoming_runningBut h
    · exact h
  · exact h

theorem checkArrival_runningBut (slip : Int) (h : RunningBut none s) : RunningBut none (checkArrival n slip s) := by
  unfold checkArrival
  simp only
  split
  · exact enterLost_runningBut _ h
  · split
    · exact jump_runningBut (h.setAxis id)
    · exact h

theorem noteIndex_runningBut (h : RunningBut busy s) : RunningBut busy (noteIndex n s) := h.setAxis id

theorem indexArrival_runningBut (h : RunningBut none s) : RunningBut none (indexArrival n s) := by
  unfold indexArrival
  split
  · rename_i c _ _
    have reported : ∀ x slip time, RunningBut none (indexRecord n x slip time (noteIndex n (s.takeIndex n c))) :=
      fun _ _ _ => (noteIndex_runningBut (takeIndex_runningBut c h)).recordIf _ _
    unfold arrive
    simp only
    refine sendEvent_runningBut _ _ (homingIndex_runningBut ?_)
    split
    · exact checkArrival_runningBut _ (reported _ _ _)
    · exact reported _ _ _
  · exact h
  · exact h

theorem foldl_homingEdge_runningBut (k : TriggerId) (ns : List AxisId) (h : RunningBut busy s) :
    RunningBut busy (ns.foldl (homingEdge k) s) := by
  induction ns generalizing s with
  | nil => exact h
  | cons n ns ih => exact ih (homingEdge_runningBut k h)

theorem triggerEdge_runningBut (k : TriggerId) (before after : List AxisId) (h : RunningBut none s) :
    RunningBut none (triggerEdge k before after s) := by
  unfold triggerEdge
  split
  · unfold takeEdge
    simp only
    split
    · split
      · exact h
      · exact foldl_homingEdge_runningBut _ _ (sendEvent_runningBut _ _ (foldl_homingEdge_runningBut _ _ h))
    · exact h
  · exact h

theorem RunningBut.keptByEvents : KeptByEvents (RunningBut none) where
  countEvent := fun _ takes _ h => countEvent_runningBut takes h
  quadratureError := fun _ _ h => quadratureError_runningBut h
  indexArrival := fun _ _ h => indexArrival_runningBut h
  decoderChange := fun _ lines _ h => decoderChange_runningBut lines h
  triggerEdge := fun k before after _ h => triggerEdge_runningBut k before after h

end

/-! ### The requests -/

section
variable {busy : Option AxisId} {s : State}

/-- The axis record of an AXIS_CONFIG comes before its departure notice. -/
theorem carryAxisConfig_runningBut (p : AxisId × AxisConfig × AxisMode) (h : RunningBut busy s) :
    RunningBut busy (carryAxisConfig p s).1 := by
  unfold carryAxisConfig
  simp only
  split
  · refine jump_runningBut (h.departIf ?_ fun m hm => ?_)
    · simp [axisRecord_eq, State.forgetReturned]
    · rw [axisRecord_eq]
      exact State.setAxis_axis_ne _ _ _ hm
  · exact h

theorem carrySetPosition_runningBut (p : AxisId × Position) (h : RunningBut busy s) :
    RunningBut busy (carrySetPosition p s).1 :=
  jump_runningBut (axisRecord_runningBut _ (h.setAxis fun _ => rfl))

theorem carryHome_runningBut (p : AxisId × HomingParams) (h : RunningBut busy s) : RunningBut busy (carryHome p s).1 :=
  h.departIf rfl fun _ hm => State.setAxis_axis_ne _ _ _ hm

theorem carryHomeCancel_runningBut (n : AxisId) (h : RunningBut busy s) : RunningBut busy (carryHomeCancel n s).1 := by
  unfold carryHomeCancel
  split
  · rename_i hr
    exact axisRecord_runningBut _ (h.setAxis fun href => nomatch hr.symm.trans href)
  all_goals exact h

/-- A staging request leaves the state and the active list of every schedule. -/
theorem restage_runningBut (n : AxisId) (f : Nat) (l : List Entry) (h : RunningBut busy s) :
    RunningBut busy (s.restage n f l) :=
  RunningBut.setSched (s := s.setFree f) h ((h n).of_same rfl id)

theorem carryStageAdd_runningBut (p : AxisId × List Entry) (h : RunningBut busy s) :
    RunningBut busy (carryStageAdd p s).1 := by
  unfold carryStageAdd
  simp only
  split
  · exact h
  · split
    · exact h
    · split
      · exact h
      · exact restage_runningBut _ _ _ h

theorem carryStageRemove_runningBut (p : AxisId × Nat) (h : RunningBut busy s) :
    RunningBut busy (carryStageRemove p s).1 := by
  unfold carryStageRemove
  simp only
  split
  · exact h
  · split
    · exact restage_runningBut _ _ _ h
    · exact h

theorem carryStageClear_runningBut (n : AxisId) (h : RunningBut busy s) : RunningBut busy (carryStageClear n s).1 := by
  unfold carryStageClear
  simp only
  split
  · exact h
  · exact restage_runningBut _ _ _ h

theorem carryStageCopy_runningBut (n : AxisId) (h : RunningBut busy s) : RunningBut busy (carryStageCopy n s).1 := by
  unfold carryStageCopy
  simp only
  split
  · exact h
  · split
    · exact h
    · exact restage_runningBut _ _ _ h

theorem carrySchedStart_runningBut (n : AxisId) (h : RunningBut busy s) : RunningBut busy (carrySchedStart n s).1 := by
  unfold carrySchedStart
  split
  · exact h
  · split
    · exact h
    · rename_i hne
      split
      · exact h
      · rename_i href
        exact h.setSched fun _ => ⟨not_not.mp href, fun _ he => hne (armAll_eq_nil.mp he)⟩

theorem carryCommit_runningBut (p : AxisId × CommitMode × Bool) (h : RunningBut none s) :
    RunningBut none (carryCommit p s).1 := by
  obtain ⟨n, mode, run⟩ := p
  have pends : ∀ c, RunningBut none (s.setSched n { s.sched n with commit := c }) := fun c =>
    h.setSched ((h n).of_same rfl id)
  unfold carryCommit
  simp only
  split
  · exact h
  · split
    · exact (RunningBut.keptByRoutes none).sendEvents _ _ (takeCommit_runningBut _ h)
    · exact pends _
    · split
      · exact pends _
      · exact h

theorem stopAll_runningBut (s : State) : RunningBut busy (stopAll s) := fun n =>
  .of_not_running (by simp [stopAll, State.sched])

/-- The levels that the axes take at the end of a reset leave their reference states (Table 1-1). -/
theorem completeReset_runningBut (reason : HelloReason) (h : RunningBut busy s) :
    RunningBut busy (completeReset reason s) := by
  intro n
  have ref : ((completeReset reason s).axis n).ref = (s.axis n).ref := by simp [completeReset, State.axis]
  rw [ref]
  exact h n

end

/-! ### The commands -/

/-- Every command keeps R55. -/
theorem RunningBut.keptByCommand (c : Instr) : KeptByCommand c (RunningBut none) where
  toKeptByRoutes := RunningBut.keptByRoutes none
  toKeptByEvents := RunningBut.keptByEvents
  advance := fun _ _ h => h
  wires := fun _ _ _ h => h
  timebase := fun _ _ _ h => h
  timeSet := fun _ _ _ h => h
  syncLoad := fun _ s arm h => by
    unfold syncLoad
    refine RunningBut.recordIf ?_ _ _
    exact h
  trigger := fun _ _ _ h => h
  link := fun _ _ _ h => h
  pending := fun _ _ h => h
  cold := fun _ _ _ => .of_reset rfl
  warm := fun _ _ _ => .of_reset rfl
  completion := fun _ _ h => completeReset_runningBut _ h
  endLead := fun s l h => by
    unfold endLead
    split
    · exact h
    · split <;> exact h
  endGap := fun s l h => by
    unfold endGap
    split
    · exact h
    · split <;> exact h
  endPulse := fun s l h => by
    unfold endPulse
    split
    · exact h
    · split <;> exact h
  outputConfig := fun s p h => by
    unfold carryOutputConfig
    simp only
    split <;> exact h
  outputAction := fun s p h => by
    unfold carryOutputAction
    simp only
    split
    · exact h
    · obtain ⟨_, _, _, he⟩ := takeAction_frame p.1 p.2 s
      simp only [he]
      exact h
  outputStop := fun _ _ h => h
  enterSafe := fun s h => by
    obtain ⟨_, _, _, he⟩ := enterSafe_frame s
    rw [he]
    exact h
  leaveSafe := fun s h => by
    unfold leaveSafe
    split <;> exact h
  enables := fun _ _ h => h
  ackTimeout := fun s h => by
    unfold ackTimeout
    split <;> exact h
  notice := fun _ s a p _ h => by
    unfold judgeNotice
    split
    · split <;> exact h
    · exact h
  endSession := fun _ h => h
  handover := fun _ _ _ h => h
  attach := fun s p h => by
    unfold carryAttach
    simp only
    split <;> exact h
  deliveryConfig := fun _ _ _ _ _ h => h
  fetch := fun s b p _ _ h => by
    unfold carryFetch
    split <;> exact h
  stopAll := fun s _ => stopAll_runningBut s
  axisConfig := fun _ _ _ _ h => carryAxisConfig_runningBut _ h
  setPosition := fun _ _ _ _ h => carrySetPosition_runningBut _ h
  home := fun _ _ h => carryHome_runningBut _ h
  homeCancel := fun _ _ h => carryHomeCancel_runningBut _ h
  stageAdd := fun _ _ _ _ h => carryStageAdd_runningBut _ h
  stageRemove := fun _ _ h => carryStageRemove_runningBut _ h
  stageClear := fun _ _ h => carryStageClear_runningBut _ h
  stageCopy := fun _ _ h => carryStageCopy_runningBut _ h
  schedConfig := fun _ p h => h.setSched ((h p.1).of_same rfl id)
  cancel := fun _ _ h => cancelCommit_runningBut h
  start := fun _ _ h => carrySchedStart_runningBut _ h
  commit := fun _ _ _ h => carryCommit_runningBut _ h

end Sys2Proof.Machine

namespace Sys2Proof.Proofs

open Sys2Proof.Machine

/-- Settles O50: every command keeps the relation with no schedule busy, which is R55. -/
theorem runningScheduleHasAReferencedAxisAndEntries : Obligations.RunningScheduleHasAReferencedAxisAndEntries := by
  intro s t h he
  exact runningBut_none.mp (step_keeps RunningBut.keptByCommand s t (runningBut_none.mpr h) he)

end Sys2Proof.Proofs
end

section
/-! SUPPORT and the settling of O17. The schedule requests SCHED_START, SCHED_STOP and SCHED_CONFIG: what each does to
its schedule, case by case, and how the dispatcher answers them with an empty payload. -/

namespace Sys2Proof.Machine

/-! ### The operands -/

/-- SCHED_CONFIG with H = 0 does not pass its check (R72, R203). -/
theorem readSchedConfig_zero (s : State) (n : AxisId) {h0 h1 : Byte} (h : h0.toNat * 256 + h1.toNat = 0) :
    readSchedConfig s [byteOf n.val, h0, h1] = none := by
  simp [readSchedConfig, readAxis_byteOf, readRange, numBE_pair, h]

/-- Every other H of two bytes passes it. -/
theorem readSchedConfig_h (s : State) (n : AxisId) {h0 h1 : Byte} (h : h0.toNat * 256 + h1.toNat ≠ 0) :
    readSchedConfig s [byteOf n.val, h0, h1] = some (n, h0.toNat * 256 + h1.toNat) := by
  have range : 1 ≤ h0.toNat * 256 + h1.toNat ∧ h0.toNat * 256 + h1.toNat ≤ 65535 := by omega
  simp [readSchedConfig, readAxis_byteOf, readRange, numBE_pair, range]

/-! ### The cases of SCHED_START (R56) -/

section
variable {n : AxisId} {s : State}

theorem carrySchedStart_running (h : (s.sched n).state = .running) : carrySchedStart n s = (s, .of .ok []) :=
  if_pos h

theorem carrySchedStart_emptyList (h : (s.sched n).state ≠ .running) (hl : (s.sched n).active = []) :
    carrySchedStart n s = (s, .of .emptyList []) :=
  (if_neg h).trans (if_pos hl)

theorem carrySchedStart_notReferenced (h : (s.sched n).state ≠ .running) (hl : (s.sched n).active ≠ [])
    (hr : (s.axis n).ref ≠ .referenced) : carrySchedStart n s = (s, .of .notReferenced []) :=
  (if_neg h).trans ((if_neg hl).trans (if_pos hr))

theorem carrySchedStart_starts (h : (s.sched n).state ≠ .running) (hl : (s.sched n).active ≠ [])
    (hr : (s.axis n).ref = .referenced) : carrySchedStart n s = (runSchedule n s, .of .ok []) :=
  (if_neg h).trans ((if_neg hl).trans (if_neg (not_not.mpr hr)))

end

/-! ### How they are answered -/

section
variable {α : Type} {op : RequestOp} {read : State → List Byte → Option α} {carry : α → State → State × Answer}
  {s : State} {r : Request} {rest : List Request} {p : α} {n : AxisId} {status : Status}

/-- A schedule request that leaves the state as it is gives its status alone. -/
theorem dispatch_status (h : Takes s r rest) (ha : Attached s) (hop : r.op = op.code) (hu : uncached op.code = false)
    (hl : op.lengthOk r.payload = true) (hr : read (s.took rest) r.payload = some p)
    (hc : carry p (s.took rest) = (s.took rest, .of status [])) :
    dispatch op read carry s = s.replied r rest status [] :=
  dispatch_carried h hop (.inr ha) hl hr hc hu

/-- A schedule request that is carried out replaces the schedule of its axis. -/
theorem dispatch_sched_done {c : Schedule} (h : Takes s r rest) (ha : Attached s) (hop : r.op = op.code)
    (hu : uncached op.code = false) (hl : op.lengthOk r.payload = true)
    (hr : read (s.took rest) r.payload = some p)
    (hc : carry p (s.took rest) = ((s.took rest).setSched n c, .of .ok [])) :
    dispatch op read carry s = State.replied { s with scheds := s.scheds.set n c } r rest .ok [] :=
  dispatch_carried h hop (.inr ha) hl hr hc hu

end

end Sys2Proof.Machine

namespace Sys2Proof.Proofs

open Sys2Proof.Machine

/-- Settles O17: each request passes the dispatch checks, and the cases of the schedule's operations, in their order,
give the answers. -/
theorem scheduleStartsStopsAndKeepsItsList : Obligations.ScheduleStartsStopsAndKeepsItsList := by
  refine ⟨?start, fun s r rest n h ha => ⟨?stop, ?config⟩⟩
  case start =>
    intro s r rest n h ha hop hp
    have length : RequestOp.schedStart.lengthOk r.payload = true := by rw [hp]; rfl
    have operands : readAxisOnly (s.took rest) r.payload = some n := by rw [hp]; exact readAxis_byteOf n
    refine ⟨fun hs => ?running, fun hs hl => ?emptyList, fun hs hl hr => ?notReferenced, fun hs hl hr => ?starts⟩
    case running =>
      exact congrArg Host.Outcome.next (dispatch_status h ha hop rfl length operands (carrySchedStart_running hs))
    case emptyList =>
      exact congrArg Host.Outcome.next (dispatch_status h ha hop rfl length operands
        (carrySchedStart_emptyList hs hl))
    case notReferenced =>
      exact congrArg Host.Outcome.next (dispatch_status h ha hop rfl length operands
        (carrySchedStart_notReferenced hs hl hr))
    case starts =>
      exact congrArg Host.Outcome.next (dispatch_sched_done h ha hop rfl length operands
        (carrySchedStart_starts hs hl hr))
  case stop =>
    intro hop hp
    have length : RequestOp.schedStop.lengthOk r.payload = true := by rw [hp]; rfl
    have operands : readAxisOnly (s.took rest) r.payload = some n := by rw [hp]; exact readAxis_byteOf n
    exact congrArg Host.Outcome.next (dispatch_sched_done (carry := carrySchedStop) h ha hop rfl length operands rfl)
  case config =>
    intro h0 h1 hop hp
    have length : RequestOp.schedConfig.lengthOk r.payload = true := by rw [hp]; rfl
    refine ⟨fun hh => ?sets, fun hz => ?zero⟩
    case sets =>
      have operands : readSchedConfig (s.took rest) r.payload = some (n, h0.toNat * 256 + h1.toNat) := by
        rw [hp]; exact readSchedConfig_h _ n hh
      exact congrArg Host.Outcome.next
        (dispatch_sched_done (carry := carrySchedConfig) h ha hop rfl length operands rfl)
    case zero =>
      have bad : readSchedConfig (s.took rest) r.payload = none := by rw [hp]; exact readSchedConfig_zero _ n hz
      exact congrArg Host.Outcome.next (dispatch_badParam h hop (.inr ha) length bad rfl)

end Sys2Proof.Proofs
end

section
/-! SUPPORT and the settling of O27. The requests OUTPUT_STOP, OUTPUT_CONFIG, OUTPUT_SAFE and OUTPUT_RELEASE: what each
does to the lines, case by case, how the dispatcher answers them, and the level a line shows at its pin. -/

namespace Sys2Proof.Machine

/-! ### The operands -/

/-- A line number reads back from its byte. -/
theorem readLine_byteOf (l : LineId) : readLine (byteOf l.val) = some l := by
  decide +revert

theorem readLevel_levelCode (level : Level) : readLevel (levelCode level) = some level := by
  cases level <;> rfl

theorem readPolicy_code (policy : Policy) : readPolicy policy.code = some policy := by
  cases policy <;> rfl

theorem readFlag_flagByte (b : Bool) : readFlag (flagByte b) = some b := by
  cases b <;> rfl

/-- The OUTPUT_CONFIG request carries its five items (Table 10-7). -/
theorem readOutputConfig_bytes (s : State) (l : LineId) (idle safeLevel : Level) (policy : Policy) (report : Bool) :
    readOutputConfig s [byteOf l.val, levelCode idle, levelCode safeLevel, policy.code, flagByte report] =
      some (l, idle, safeLevel, policy, report) := by
  simp [readOutputConfig, readLine_byteOf, readLevel_levelCode, readPolicy_code, readFlag_flagByte]

/-- The byte that tells whether there is an action. -/
theorem flagByte_isSome {α : Type} (o : Option α) [Decidable (o = none)] :
    flagByte o.isSome = if o = none then 0#8 else 1#8 := by
  cases o <;> simp [flagByte]

/-! ### One line -/

/-- The end of the line's last pulse, once a running action has been cut short (R90). -/
def Line.lastPulseEndOnStop (now : Nat) (x : Line) : Option Nat :=
  match x.running with
  | some ⟨_, .active, _, _⟩ => some now
  | _ => x.lastPulseEnd

/-- A stop empties both slots; only a pulse cut short in ACTIVE moves the end of the last pulse (R90). -/
theorem Line.stop_eq (now : Nat) (x : Line) :
    x.stop now = { x with running := none, waiting := none, lastPulseEnd := x.lastPulseEndOnStop now } := by
  obtain ⟨idle, safeLevel, policy, report, steady, running, lastPulseEnd, waiting, drops, preempts⟩ := x
  cases running with
  | none => rfl
  | some run =>
    obtain ⟨action, phase, remaining, due⟩ := run
    cases phase <;> rfl

/-- While SAFE the pin shows the safe level, whatever the line does (R77). -/
theorem Line.pin_safe (x : Line) : x.pin true = x.safeLevel := rfl

theorem Line.pin_free {x : Line} (h : x.running = none) : x.pin false = x.steady := by
  simp [Line.pin, h]

/-- A pulse shows the opposite of the steady level; LEAD and GAP show the steady level (R77). -/
theorem Line.pin_running {x : Line} {run : Running} (h : x.running = some run) :
    x.pin false = if run.phase = .active then x.steady.flip else x.steady := by
  cases hp : run.phase <;> simp [Line.pin, h, hp]

/-! ### The cases of each request -/

/-- Counting the lines that hold an action, in the model's form and in the statement's. -/
theorem filter_isSome_length_eq_countP {ι α : Type} [DecidableEq α] (slot : ι → Option α) (ls : List ι) :
    (ls.filter fun l => (slot l).isSome).length = ls.countP fun l => slot l ≠ none := by
  rw [← List.countP_eq_length_filter]
  exact List.countP_congr fun l _ => by simp [Option.isSome_iff_ne_none]

section
variable {s : State}

theorem carryOutputConfig_safe (p : LineId × Level × Level × Policy × Bool) (h : s.safe = true) :
    carryOutputConfig p s = (s, .of .outputsSafe []) :=
  if_pos h

/-- The line stops, then takes its new configuration and its new idle level (R91). -/
theorem carryOutputConfig_sets (l : LineId) (idle safeLevel : Level) (policy : Policy) (report : Bool)
    (h : s.safe = false) :
    carryOutputConfig (l, idle, safeLevel, policy, report) s =
      (s.setLine l { (s.line l).stop s.now with
        idle := idle, safeLevel := safeLevel, policy := policy, report := report, steady := idle }, .of .ok []) := by
  simp [carryOutputConfig, h, Answer.done, Answer.bare, Answer.of]

theorem carryOutputAction_safe (p : LineId × OutAction) (h : s.safe = true) :
    carryOutputAction p s = (s, .of .outputsSafe []) :=
  if_pos h

theorem enterSafe_safe (h : s.safe = true) : enterSafe s = s := if_pos h

/-- Every line stops, and the one record tells how many actions of each kind ended (R93). -/
theorem enterSafe_enters (h : s.safe = false) :
    enterSafe s = { s with
      lines := s.lines.map (Line.stop s.now), safe := true
      queue := s.queue.offer s.queue.enables.output
        ⟨.safeEntered (Config.allLines.countP fun l => (s.line l).waiting ≠ none)
          (Config.allLines.countP fun l => (s.line l).running ≠ none), s.timebase.count, []⟩ } := by
  unfold enterSafe waitingCount runningCount
  rw [State.produceIf_eq, filter_isSome_length_eq_countP fun l => (s.line l).waiting,
    filter_isSome_length_eq_countP fun l => (s.line l).running]
  simp [h]

theorem leaveSafe_notSafe (h : s.safe = false) : leaveSafe s = s := by
  simp [leaveSafe, h]

/-- Every line returns to its idle level (R95). -/
theorem leaveSafe_releases (h : s.safe = true) :
    leaveSafe s = { s with lines := s.lines.map fun x => { x with steady := x.idle }, safe := false } :=
  if_pos h

end

/-! ### How they are answered -/

section
variable {α : Type} {op : RequestOp} {read : State → List Byte → Option α} {carry : α → State → State × Answer}
  {s : State} {r : Request} {rest : List Request} {p : α} {l : LineId}

/-- A request that is carried out at one line replaces that line. -/
theorem dispatch_line_done {x : Line} {payload : List Byte} (h : Takes s r rest) (ha : Attached s)
    (hop : r.op = op.code) (hu : uncached op.code = false) (hl : op.lengthOk r.payload = true)
    (hr : read (s.took rest) r.payload = some p)
    (hc : carry p (s.took rest) = ((s.took rest).setLine l x, .of .ok payload)) :
    dispatch op read carry s = State.replied { s with lines := s.lines.set l x } r rest .ok payload :=
  dispatch_carried h hop (.inr ha) hl hr hc hu

/-- A request that is carried out on the whole Output Unit replaces its lines, its SAFE state and the queue. -/
theorem dispatch_unit_done {lines : Vector Line 8} {safe : Bool} {q : RecordQueue} (h : Takes s r rest)
    (ha : Attached s) (hop : r.op = op.code) (hu : uncached op.code = false) (hl : op.lengthOk r.payload = true)
    (hr : read (s.took rest) r.payload = some p)
    (hc : carry p (s.took rest) = ({ s.took rest with lines := lines, safe := safe, queue := q }, .of .ok [])) :
    dispatch op read carry s = State.replied { s with lines := lines, safe := safe, queue := q } r rest .ok [] :=
  dispatch_carried h hop (.inr ha) hl hr hc hu

end

end Sys2Proof.Machine

namespace Sys2Proof.Proofs

open Sys2Proof.Machine

/-- Settles O27: each request passes the dispatch checks, and the cases of its operation give the answer, a stopped line
being what `Line.stop_eq` says; the level at the pin is said of one line. -/
theorem stopConfigAndSafeEndTheActionsAndThePinFollows :
    Obligations.StopConfigAndSafeEndTheActionsAndThePinFollows := by
  refine ⟨fun s r rest l h ha => ⟨?stop, ?config, ?action⟩,
    fun s r rest h ha hp => ⟨?enters, ?staysSafe, ?releases, ?staysReleased⟩,
    fun x => ⟨x.pin_safe, Line.pin_free, fun _ => Line.pin_running⟩⟩
  case stop =>
    intro hop hp
    have length : RequestOp.outputStop.lengthOk r.payload = true := by rw [hp]; rfl
    have operands : readLineOnly (s.took rest) r.payload = some l := by rw [hp]; exact readLine_byteOf l
    have done := dispatch_line_done (op := .outputStop) (carry := carryOutputStop) h ha hop rfl length operands rfl
    rw [Line.stop_eq, flagByte_isSome, flagByte_isSome] at done
    exact congrArg Host.Outcome.next done
  case config =>
    intro idle safeLevel policy report hop hp
    have length : RequestOp.outputConfig.lengthOk r.payload = true := by rw [hp]; rfl
    have operands : readOutputConfig (s.took rest) r.payload = some (l, idle, safeLevel, policy, report) := by
      rw [hp]; exact readOutputConfig_bytes _ l idle safeLevel policy report
    refine ⟨fun hs => ?sets, fun hs => ?refused⟩
    case sets =>
      have done := dispatch_line_done (op := .outputConfig) h ha hop rfl length operands
        (carryOutputConfig_sets (s := s.took rest) l idle safeLevel policy report hs)
      rw [Line.stop_eq] at done
      exact congrArg Host.Outcome.next done
    case refused =>
      exact congrArg Host.Outcome.next (dispatch_status h ha hop rfl length operands (carryOutputConfig_safe _ hs))
  case action =>
    intro act hop hlen operands hs
    have length : RequestOp.outputAction.lengthOk r.payload = true := decide_eq_true hlen
    exact congrArg Host.Outcome.next (dispatch_status (read := readOutputAction) h ha hop rfl length operands
      (carryOutputAction_safe _ hs))
  case enters =>
    intro hop hs
    have length : RequestOp.outputSafe.lengthOk r.payload = true := by rw [hp]; rfl
    refine ⟨s.lines.map (Line.stop s.now), fun l => ?_, ?_⟩
    · have stopped : (s.lines.map (Line.stop s.now))[l] = (s.line l).stop s.now := by simp [State.line]
      rw [stopped, Line.stop_eq]
      rfl
    · exact congrArg Host.Outcome.next (dispatch_unit_done (read := readNothing) h ha hop rfl length rfl
        (congrArg (·, Answer.done) (enterSafe_enters (s := s.took rest) hs)))
  case staysSafe =>
    intro hop hs
    have length : RequestOp.outputSafe.lengthOk r.payload = true := by rw [hp]; rfl
    exact congrArg Host.Outcome.next (dispatch_status (read := readNothing) h ha hop rfl length rfl
      (congrArg (·, Answer.done) (enterSafe_safe (s := s.took rest) hs)))
  case releases =>
    intro hop hs
    have length : RequestOp.outputRelease.lengthOk r.payload = true := by rw [hp]; rfl
    refine ⟨s.lines.map fun x => { x with steady := x.idle }, fun l => by simp [State.line], ?_⟩
    exact congrArg Host.Outcome.next (dispatch_unit_done (read := readNothing) h ha hop rfl length rfl
      (congrArg (·, Answer.done) (leaveSafe_releases (s := s.took rest) hs)))
  case staysReleased =>
    intro hop hs
    have length : RequestOp.outputRelease.lengthOk r.payload = true := by rw [hp]; rfl
    exact congrArg Host.Outcome.next (dispatch_status (read := readNothing) h ha hop rfl length rfl
      (congrArg (·, Answer.done) (leaveSafe_notSafe (s := s.took rest) hs)))

end Sys2Proof.Proofs
end

section
/-! SUPPORT and the settling of O31. The requests TRIGGER_CONFIG, ROUTE_SET and ROUTE_CLEAR: their operands read back
from their bytes, and how the dispatcher answers them once the input or the route is replaced. -/

namespace Sys2Proof.Machine

/-! ### Single operands -/

/-- A trigger input number reads back from its byte. -/
theorem readTrigger_byteOf (k : TriggerId) : readTrigger (byteOf k.val) = some k := by
  decide +revert

/-- A route number reads back from its byte. -/
theorem readRoute_byteOf (i : RouteId) : readRoute (byteOf i.val) = some i := by
  decide +revert

theorem readSelection_code (selection : EdgeSelection) : readSelection selection.code = some selection := by
  cases selection <;> rfl

theorem readRouteEdge_code (edge : RouteEdge) : readRouteEdge edge.code = some edge := by
  cases edge <;> rfl

/-- A mark of 1–3 reads back from its byte. -/
theorem readRange_mark {m : Fin 4} (h : m ≠ 0) : readRange 1 3 (byteOf m.val).toNat = some m.val := by
  decide +revert

/-- An axis set that is not empty reads back from its byte. -/
theorem readAxisSet_byteOf {set : AxisSet} (h : set ≠ 0) : readAxisSet (byteOf set.toNat) = some set := by
  decide +revert

theorem bytesBE_two (v : Nat) : bytesBE 2 v = [byteOf (v / 256), byteOf v] := rfl

/-- A number of two bytes reads back from them (R192). -/
theorem numBE_byteOf_pair {v : Nat} (h : v < 65536) : numBE [byteOf (v / 256), byteOf v] = v := by
  simp only [numBE_pair, byteOf, BitVec.toNat_ofNat]
  omega

/-! ### Sources and actions of a route -/

/-- The three parameters of an output action as they stand in a request (R89). -/
def paramBytes (width count period : Fin 65536) : List Byte :=
  bytesBE 2 width ++ bytesBE 2 count ++ bytesBE 2 period

/-- The kind of an output action fits its byte. -/
theorem OutAction.toNat_byteOf_code (act : OutAction) : (byteOf act.code).toNat = act.code := by
  rcases act with (_ | _) | _ | _ | _ <;> rfl

/-- An action in range reads back from its kind and its parameters. -/
theorem readAction_params {act : OutAction} (h : act.inRange) :
    ∃ width count period, act.params = paramBytes width count period ∧
      readAction act.code width count period = some act := by
  match act, h with
  | .timed (.pulse w), ⟨low, high⟩ =>
    exact ⟨⟨w, by omega⟩, 0, 0, rfl, if_neg (Nat.one_le_iff_ne_zero.mp low)⟩
  | .timed (.train w c p), ⟨wLow, cLow, cHigh, pLow, pHigh, shorter⟩ =>
    exact ⟨⟨w, by omega⟩, ⟨c, by omega⟩, ⟨p, by omega⟩, rfl,
      if_neg (show ¬(w = 0 ∨ c < 2 ∨ p < 2 ∨ p ≤ w) by omega)⟩
  | .set, _ => exact ⟨0, 0, 0, rfl, rfl⟩
  | .clear, _ => exact ⟨0, 0, 0, rfl, rfl⟩
  | .toggle, _ => exact ⟨0, 0, 0, rfl, rfl⟩

/-- A source reads back from its three bytes (Table 5-3). -/
theorem readSource_payload {src : RouteSource} (h : ∀ n m, src = .mark n m → m ≠ 0) :
    ∃ type b1 b2, sourcePayload (some src) = [type, b1, b2] ∧ readSource type b1 b2 = some src := by
  cases src with
  | trig k edge => exact ⟨_, _, _, rfl, by simp [readSource, readTrigger_byteOf, readRouteEdge_code]⟩
  | index n => exact ⟨_, _, _, rfl, by simp [readSource, readAxis_byteOf]⟩
  | mark n m => exact ⟨_, _, _, rfl, by simp [readSource, readAxis_byteOf, readRange_mark (h n m rfl)]⟩
  | axisLost n => exact ⟨_, _, _, rfl, by simp [readSource, readAxis_byteOf]⟩
  | schedDone n => exact ⟨_, _, _, rfl, by simp [readSource, readAxis_byteOf]⟩

/-- An action of a route reads back from its nine bytes (Table 5-4). -/
theorem readRouteAction_payload {a : RouteAction} (hset : ∀ set, a = .capture set → set ≠ 0)
    (hact : ∀ l act, a = .output l act → act.inRange) :
    ∃ type b1 b2 width count period,
      routeActionPayload (some a) = [type, b1, b2] ++ paramBytes width count period ∧
      readRouteAction type b1 b2 width count period = some a := by
  cases a with
  | capture set =>
    exact ⟨_, _, _, 0, 0, 0, rfl, by simp [readRouteAction, readAxisSet_byteOf (hset set rfl)]⟩
  | start n => exact ⟨_, _, _, 0, 0, 0, rfl, by simp [readRouteAction, readAxis_byteOf]⟩
  | stop n => exact ⟨_, _, _, 0, 0, 0, rfl, by simp [readRouteAction, readAxis_byteOf]⟩
  | commit n => exact ⟨_, _, _, 0, 0, 0, rfl, by simp [readRouteAction, readAxis_byteOf]⟩
  | output l act =>
    obtain ⟨width, count, period, params, reads⟩ := readAction_params (hact l act rfl)
    refine ⟨5#8, byteOf l.val, byteOf act.code, width, count, period, ?bytes, ?reads⟩
    case bytes => rw [← params]; rfl
    case reads => simp [readRouteAction, readLine_byteOf, act.toNat_byteOf_code, reads]

/-! ### Whole payloads -/

/-- The TRIGGER_CONFIG request carries its four items (Table 10-8). -/
theorem readTriggerConfig_bytes (s : State) (k : TriggerId) (selection : EdgeSelection) (f h0 h1 : Byte) :
    readTriggerConfig s [byteOf k.val, selection.code, f, h0, h1] =
      some (k, selection, f.toNat, h0.toNat * 256 + h1.toNat) := by
  simp [readTriggerConfig, readTrigger_byteOf, readSelection_code, numBE_pair]

/-- The ROUTE_SET request is 16 bytes, and carries the whole route (R112, Table 10-8). -/
theorem readRouteSet_bytes (s : State) (i : RouteId) {x : Route} (h : x.inRange) :
    (routeSetBytes i x).length = 16 ∧ readRouteSet s (routeSetBytes i x) = some (i, x) := by
  obtain ⟨enable, source, divider, counter, action, matched, acted, shadowed⟩ := x
  obtain ⟨hsource, hmark, low, high, haction, hset, hact, rfl, rfl, rfl, rfl⟩ := h
  obtain ⟨src, rfl⟩ := Option.ne_none_iff_exists'.mp hsource
  obtain ⟨a, rfl⟩ := Option.ne_none_iff_exists'.mp haction
  obtain ⟨s0, s1, s2, srcBytes, srcReads⟩ := readSource_payload fun n m e => hmark n m (congrArg some e)
  obtain ⟨a0, a1, a2, w, c, p, actBytes, actReads⟩ :=
    readRouteAction_payload (fun set e => hset set (congrArg some e)) fun l act e => hact l act (congrArg some e)
  have layout : routeSetBytes i ⟨enable, some src, divider, 0, some a, 0, 0, 0⟩ =
      [byteOf i.val, flagByte enable, s0, s1, s2] ++ bytesBE 2 divider ++ [a0, a1, a2] ++ paramBytes w c p := by
    simp only [routeSetBytes, srcBytes, actBytes, List.append_assoc, List.cons_append, List.nil_append]
  have dividerReads : readRange 1 256 (numBE [byteOf (divider / 256), byteOf divider]) = some divider := by
    rw [numBE_byteOf_pair (Nat.lt_of_le_of_lt high (by decide))]
    exact if_pos ⟨low, high⟩
  rw [layout]
  refine ⟨rfl, ?_⟩
  simp [readRouteSet, paramBytes, bytesBE_two, numBE_byteOf_pair, readRoute_byteOf, readFlag_flagByte, srcReads,
    dividerReads, actReads]

/-! ### How they are answered -/

section
variable {α : Type} {op : RequestOp} {read : State → List Byte → Option α} {carry : α → State → State × Answer}
  {s : State} {r : Request} {rest : List Request} {p : α}

/-- A request that is carried out at one trigger input replaces that input and its line's changes. -/
theorem dispatch_trigger_done {k : TriggerId} {w : List Nat} {x : Trigger} (h : Takes s r rest) (ha : Attached s)
    (hop : r.op = op.code) (hu : uncached op.code = false) (hl : op.lengthOk r.payload = true)
    (hr : read (s.took rest) r.payload = some p)
    (hc : carry p (s.took rest) = (((s.took rest).setTriggerWire k w).setTrigger k x, .of .ok [])) :
    dispatch op read carry s = State.replied
      { s with
        wires := { s.wires with triggers := s.wires.triggers.set k w }
        triggers := s.triggers.set k x } r rest .ok [] :=
  dispatch_carried h hop (.inr ha) hl hr hc hu

/-- A request that is carried out at one route replaces that route. -/
theorem dispatch_route_done {i : RouteId} {x : Route} (h : Takes s r rest) (ha : Attached s)
    (hop : r.op = op.code) (hu : uncached op.code = false) (hl : op.lengthOk r.payload = true)
    (hr : read (s.took rest) r.payload = some p)
    (hc : carry p (s.took rest) = ((s.took rest).setRoute i x, .of .ok [])) :
    dispatch op read carry s = State.replied { s with routes := s.routes.set i x } r rest .ok [] :=
  dispatch_carried h hop (.inr ha) hl hr hc hu

end

end Sys2Proof.Machine

namespace Sys2Proof.Proofs

open Sys2Proof.Machine

/-- Settles O31: each request passes the dispatch checks, its operands being those that its bytes carry, and replaces
its input or its route. -/
theorem triggerAndRouteConfigurationReplaces : Obligations.TriggerAndRouteConfigurationReplaces := by
  refine ⟨?config, fun s r rest i h ha => ⟨?set, ?clear⟩⟩
  case config =>
    intro s r rest k selection f h0 h1 h ha hop hp
    have length : RequestOp.triggerConfig.lengthOk r.payload = true := by rw [hp]; rfl
    have operands : readTriggerConfig (s.took rest) r.payload =
        some (k, selection, f.toNat, h0.toNat * 256 + h1.toNat) := by
      rw [hp]; exact readTriggerConfig_bytes _ k selection f h0 h1
    exact congrArg Host.Outcome.next
      (dispatch_trigger_done (carry := carryTriggerConfig) h ha hop rfl length operands rfl)
  case set =>
    intro x hop hx hp
    obtain ⟨size, operands⟩ := readRouteSet_bytes (s.took rest) i hx
    rw [← hp] at size operands
    have length : RequestOp.routeSet.lengthOk r.payload = true := decide_eq_true size
    exact congrArg Host.Outcome.next
      (dispatch_route_done (carry := carryRouteSet) h ha hop rfl length operands rfl)
  case clear =>
    intro hop hp
    have length : RequestOp.routeClear.lengthOk r.payload = true := by rw [hp]; rfl
    have operands : readRouteOnly (s.took rest) r.payload = some i := by rw [hp]; exact readRoute_byteOf i
    exact congrArg Host.Outcome.next
      (dispatch_route_done (carry := carryRouteClear) h ha hop rfl length operands rfl)

end Sys2Proof.Proofs
end

section
/-! SUPPORT and the settling of O52. What becomes of the Record Queue in a command, said once for any property of the
queue: records are handed over, the kind enables are replaced, a notice removes records, or a reset empties the queue
(`QueueKept`). R137's numbering, with R142's condition on the pending losses, is such a property. -/

namespace Sys2Proof.Machine

/-! ### Records handed over -/

section
variable {n : AxisId} {q : RecordQueue} {s t : State}

theorem OnSchedule.grown (h : OnSchedule n s t) : Grown s.queue t.queue := by
  obtain ⟨_, _, _, hq, rfl⟩ := h
  exact hq

theorem issueAction_grown (l : LineId) (act : OutAction) (s : State) :
    Grown s.queue (issueAction l act s).queue := by
  obtain ⟨_, _, hq, he⟩ := issueAction_frame l act s
  rwa [he]

theorem enterSafe_grown (s : State) : Grown s.queue (enterSafe s).queue := by
  obtain ⟨_, _, hq, he⟩ := enterSafe_frame s
  rwa [he]

theorem axisRecord_grown (reason : AxisReason) (h : Grown q s.queue) : Grown q (axisRecord n reason s).queue := by
  rw [axisRecord_eq]
  exact h.offer _ _

theorem departIf_grown (old : RefState) (h : Grown q s.queue) : Grown q (departIf old n s).queue := by
  unfold departIf
  split
  · exact h.trans (departure_frame n s).grown
  · exact h

theorem jump_grown (h : Grown q s.queue) : Grown q (jump n s).queue := h.trans (jump_frame n s).grown

theorem syncLoad_grown (arm : SyncArm) (s : State) : Grown s.queue (syncLoad arm s).queue := by
  unfold syncLoad
  rw [State.produceIf_eq]
  exact (Grown.refl _).offer _ _

/-- A changed mode hands over the axis record, then those of the departure and the jump (R24). -/
theorem carryAxisConfig_grown (p : AxisId × AxisConfig × AxisMode) (s : State) :
    Grown s.queue (carryAxisConfig p s).1.queue := by
  unfold carryAxisConfig
  simp only
  split
  · exact jump_grown (departIf_grown _ (axisRecord_grown _ (.refl _)))
  · exact .refl _

theorem carrySetPosition_grown (p : AxisId × Position) (s : State) :
    Grown s.queue (carrySetPosition p s).1.queue :=
  jump_grown (axisRecord_grown _ (.refl _))

theorem carryHome_grown (p : AxisId × HomingParams) (s : State) : Grown s.queue (carryHome p s).1.queue :=
  departIf_grown _ (.refl _)

theorem carryHomeCancel_grown (n : AxisId) (s : State) : Grown s.queue (carryHomeCancel n s).1.queue := by
  unfold carryHomeCancel
  split
  · exact axisRecord_grown _ (.refl _)
  all_goals exact .refl _

theorem carryOutputAction_grown (p : LineId × OutAction) (s : State) :
    Grown s.queue (carryOutputAction p s).1.queue := by
  unfold carryOutputAction
  simp only
  split
  · exact .refl _
  · obtain ⟨_, _, hq, he⟩ := takeAction_frame p.1 p.2 s
    simpa only [he] using hq

theorem carryCommit_grown (p : AxisId × CommitMode × Bool) (s : State) :
    Grown s.queue (carryCommit p s).1.queue := by
  unfold carryCommit
  simp only
  split
  · exact .refl _
  · split
    · obtain ⟨_, _, _, _, _, hq, he⟩ := sendEvents_frame (takeCommit p.1 p.2.2 s).2 (takeCommit p.1 p.2.2 s).1
      rw [he]
      exact (takeCommit_frame _ _ _).grown.trans hq
    · exact .refl _
    · split <;> exact .refl _

end

/-! ### Requests and events that leave the queue -/

section
variable (s : State)

theorem endLead_queue (l : LineId) : (endLead l s).queue = s.queue := by
  unfold endLead
  split
  · rfl
  · split <;> rfl

theorem endGap_queue (l : LineId) : (endGap l s).queue = s.queue := by
  unfold endGap
  split
  · rfl
  · split <;> rfl

theorem endPulse_queue (l : LineId) : (endPulse l s).queue = s.queue := by
  unfold endPulse
  split
  · rfl
  · split <;> rfl

theorem leaveSafe_queue : (leaveSafe s).queue = s.queue := by
  unfold leaveSafe
  split <;> rfl

theorem ackTimeout_queue : (ackTimeout s).queue = s.queue := by
  unfold ackTimeout
  split <;> rfl

theorem carryOutputConfig_queue (p : LineId × Level × Level × Policy × Bool) :
    (carryOutputConfig p s).1.queue = s.queue := by
  unfold carryOutputConfig
  simp only
  split <;> rfl

theorem carryAttach_queue (p : Session) : (carryAttach p s).1.queue = s.queue := by
  unfold carryAttach
  simp only
  split <;> rfl

theorem carryFetch_queue (n : Nat) : (carryFetch n s).1.queue = s.queue := by
  unfold carryFetch
  split <;> rfl

theorem carryStageAdd_queue (p : AxisId × List Entry) : (carryStageAdd p s).1.queue = s.queue := by
  unfold carryStageAdd
  simp only
  split
  · rfl
  · split
    · rfl
    · split <;> rfl

theorem carryStageRemove_queue (p : AxisId × Nat) : (carryStageRemove p s).1.queue = s.queue := by
  unfold carryStageRemove
  simp only
  split
  · rfl
  · split <;> rfl

theorem carryStageClear_queue (n : AxisId) : (carryStageClear n s).1.queue = s.queue := by
  unfold carryStageClear
  simp only
  split <;> rfl

theorem carryStageCopy_queue (n : AxisId) : (carryStageCopy n s).1.queue = s.queue := by
  unfold carryStageCopy
  simp only
  split
  · rfl
  · split <;> rfl

theorem carrySchedStart_queue (n : AxisId) : (carrySchedStart n s).1.queue = s.queue := by
  unfold carrySchedStart
  split
  · rfl
  · split
    · rfl
    · split <;> rfl

end

/-! ### What a command keeps of the queue -/

/-- What the command `c` keeps of the queue: any command may hand over records and replace the kind enables, the last
byte of a frame alone may remove records, and two commands alone empty the queue (R189, R190). -/
structure QueueKept (c : Instr) (Q : RecordQueue → Prop) : Prop where
  receive : ∀ q i, Q q → Q (q.receive i)
  enables : ∀ q e, Q q → Q { q with enables := e }
  remove : (∃ b, c = .frameReceived b ∨ c = .characterReceived b) → ∀ q k time, 1 ≤ k → Q q → Q (q.remove k time)
  cold : c = .coldReset → ∀ q, Q q → Q (.reset 1#32)
  warm : c = .txFrameComplete → ∀ q, Q q → Q (.reset q.next)

namespace QueueKept

variable {c : Instr} {Q : RecordQueue → Prop}

theorem grown (k : QueueKept c Q) {s t : State} (ht : Grown s.queue t.queue) (h : Q s.queue) : Q t.queue :=
  ht.keeps Q k.receive h

/-- A notice removes records only where it is a valid ACK (R155 to R157). -/
theorem notice (k : QueueKept c Q) (hc : ∃ b, c = .frameReceived b ∨ c = .characterReceived b) (ack : Bool)
    (payload : List Byte) (s : State) (h : Q s.queue) : Q (judgeNotice ack payload s).queue := by
  unfold judgeNotice
  split
  · split
    · exact k.remove hc _ _ _ (Nat.le_add_left 1 _) h
    · exact h
  · exact h

theorem keptByAxes (k : QueueKept c Q) : KeptByAxes (fun _ => True) (fun s => Q s.queue) where
  routes := fun _ _ h => h
  record := fun _ i h => k.receive _ i h
  output := fun s l act => k.grown (issueAction_grown l act s)
  schedule := fun s n act _ => k.grown (takeSchedAct_frame n act s).grown
  axis := fun _ _ _ _ h => h
  advance := fun _ _ h => h
  wires := fun _ _ _ h => h
  finish := fun _ _ _ h => h
  rearm := fun _ _ h => h
  reach := fun s n => k.grown (reachCommit_frame n s).grown
  complete := fun s n => k.grown (completeIfEmpty_frame n s).grown
  depart := fun s n => k.grown (departure_frame n s).grown
  jump := fun s n => k.grown (jump_frame n s).grown

/-- What the operations on the queue keep, the command keeps. -/
theorem keptByCommand (k : QueueKept c Q) : KeptByCommand c (fun s => Q s.queue) where
  toKeptByRoutes := k.keptByAxes.toKeptByRoutes
  toKeptByEvents := k.keptByAxes.events fun _ _ _ h => h
  advance := fun _ _ h => h
  wires := fun _ _ _ h => h
  timebase := fun _ _ _ h => h
  timeSet := fun _ _ _ h => h
  syncLoad := fun _ s arm => k.grown (syncLoad_grown arm s)
  trigger := fun _ _ _ h => h
  link := fun _ _ _ h => h
  pending := fun _ _ h => h
  cold := fun hc _ h => k.cold hc _ h
  warm := fun hc _ h => k.warm hc _ h
  completion := fun _ _ h => h
  endLead := fun s l h => (endLead_queue s l).symm ▸ h
  endGap := fun s l h => (endGap_queue s l).symm ▸ h
  endPulse := fun s l h => (endPulse_queue s l).symm ▸ h
  outputConfig := fun s p h => (carryOutputConfig_queue s p).symm ▸ h
  outputAction := fun s p => k.grown (carryOutputAction_grown p s)
  outputStop := fun _ _ h => h
  enterSafe := fun s => k.grown (enterSafe_grown s)
  leaveSafe := fun s h => (leaveSafe_queue s).symm ▸ h
  enables := fun _ e h => k.enables _ e h
  ackTimeout := fun s h => (ackTimeout_queue s).symm ▸ h
  notice := fun hc s ack payload _ => k.notice hc ack payload s
  endSession := fun _ h => h
  handover := fun _ _ _ h => h
  attach := fun s p h => (carryAttach_queue s p).symm ▸ h
  deliveryConfig := fun _ _ _ _ _ h => h
  fetch := fun s _ n _ _ h => (carryFetch_queue s n).symm ▸ h
  stopAll := fun _ h => h
  axisConfig := fun s _ p _ => k.grown (carryAxisConfig_grown p s)
  setPosition := fun s _ p _ => k.grown (carrySetPosition_grown p s)
  home := fun s p => k.grown (carryHome_grown p s)
  homeCancel := fun s n => k.grown (carryHomeCancel_grown n s)
  stageAdd := fun s _ p _ h => (carryStageAdd_queue s p).symm ▸ h
  stageRemove := fun s p h => (carryStageRemove_queue s p).symm ▸ h
  stageClear := fun s n h => (carryStageClear_queue s n).symm ▸ h
  stageCopy := fun s n h => (carryStageCopy_queue s n).symm ▸ h
  schedConfig := fun _ _ h => h
  cancel := fun s n => k.grown (cancelCommit_frame n s).grown
  start := fun s n h => (carrySchedStart_queue s n).symm ▸ h
  commit := fun _ s p => k.grown (carryCommit_grown p s)

end QueueKept

/-! ### The numbering -/

/-- An empty queue with no losses pending, whatever its next number, is numbered (Table 7-2). -/
theorem QueueInv.reset (next : Word32) : QueueInv (.reset next) :=
  ⟨Nat.zero_le 256, fun _ h => absurd h (Nat.not_lt_zero _), fun h => absurd rfl h⟩

/-- The occupancy equals the next sequence number less the oldest (R137). -/
theorem QueueInv.occupancy_eq {q : RecordQueue} (h : QueueInv q) : (q.next - q.oldest).toNat = q.records.length := by
  have bound := h.1
  have oldest := h.oldest_eq
  have small : (BitVec.ofNat 32 q.records.length).toNat = q.records.length := Nat.mod_eq_of_lt (by omega)
  calc (q.next - q.oldest).toNat
      = (BitVec.ofNat 32 q.records.length).toNat := by rw [oldest, sub_sub_cancel]
    _ = q.records.length := small

/-- Every command keeps the numbering (R137, R138, R140 to R142). -/
theorem QueueInv.kept (c : Instr) : QueueKept c QueueInv where
  receive := fun _ i h => h.receive i
  enables := fun _ _ h => h
  remove := fun _ _ k time hk h => h.remove k time hk
  cold := fun _ _ _ => .reset _
  warm := fun _ _ _ => .reset _

end Sys2Proof.Machine

namespace Sys2Proof.Proofs

open Sys2Proof.Machine

/-- Settles O52: whatever a command does to the queue keeps the numbering, which gives the occupancy. -/
theorem recordNumbersStayConsecutive : Obligations.RecordNumbersStayConsecutive := by
  intro s t h he
  have numbered : QueueInv t.queue := step_keeps (fun c => (QueueInv.kept c).keptByCommand) s t h he
  exact ⟨numbered, numbered.occupancy_eq⟩

end Sys2Proof.Proofs
end

section
/-! SUPPORT and the settling of O37. The delivery requests DELIVERY_CONFIG and FETCH: their operands, the delivery state
and the answer of each, the length of a record's bytes, and the number of records a FETCH returns. -/

namespace Sys2Proof.Machine

/-! ### The operands -/

theorem readMode_code (mode : DeliveryMode) : readMode mode.code = some mode := by
  cases mode <;> rfl

/-- The settings that the bytes of a DELIVERY_CONFIG carry, in range (R161). -/
theorem readDeliveryConfig_bytes (s : State) (mode : DeliveryMode) {w t0 t1 : Byte}
    (hw : 1 ≤ w.toNat ∧ w.toNat ≤ 16)
    (ht : 10 ≤ t0.toNat * 256 + t1.toNat ∧ t0.toNat * 256 + t1.toNat ≤ 10000) :
    readDeliveryConfig s [mode.code, w, t0, t1] = some (mode, w.toNat, t0.toNat * 256 + t1.toNat) := by
  simp [readDeliveryConfig, readMode_code, readRange, numBE_pair, hw, ht]

/-- The number that the byte of a FETCH carries, in range (R158). -/
theorem readFetch_byte (s : State) {n : Byte} (h : 1 ≤ n.toNat ∧ n.toNat ≤ 16) : readFetch s [n] = some n.toNat :=
  if_pos h

/-! ### What each request does -/

/-- The high mark stays while it lies within the new window, and is brought back to its end otherwise (R161). -/
theorem configureDelivery_eq (mode : DeliveryMode) (window timeout : Nat) (s : State) :
    configureDelivery mode window timeout s = s.setDelivery { s.delivery with
      mode := mode, window := window, ackTimeout := timeout
      sendPoint := s.queue.oldest
      highMark := if s.queue.distance s.delivery.highMark ≤ window then s.delivery.highMark
        else s.queue.oldest + BitVec.ofNat 32 window
      ackTimer := none, timeouts := 0, stalled := false } := by
  simp only [configureDelivery, ← Nat.not_le, ite_not]

theorem carryFetch_stream {n : Nat} {s : State} (h : s.delivery.mode = .stream) :
    carryFetch n s = (s, .of .wrongState (deliveryPayload s)) := by
  simp only [carryFetch, h]

theorem carryFetch_poll {n : Nat} {s : State} (h : s.delivery.mode = .poll) :
    carryFetch n s = (fetchRecords (fetchCount n s) s,
      .of .ok (fetchPayload (fetchCount n s) (fetchRecords (fetchCount n s) s))) := by
  simp only [carryFetch, h]

/-! ### How they are answered -/

section
variable {α : Type} {op : RequestOp} {read : State → List Byte → Option α} {carry : α → State → State × Answer}
  {s : State} {r : Request} {rest : List Request} {p : α} {status : Status} {payload : List Byte}

/-- A request that is carried out at the Delivery Controller replaces its state. -/
theorem dispatch_delivery_done {d : Delivery} (h : Takes s r rest) (ha : Attached s) (hop : r.op = op.code)
    (hu : uncached op.code = false) (hl : op.lengthOk r.payload = true)
    (hr : read (s.took rest) r.payload = some p)
    (hc : carry p (s.took rest) = ((s.took rest).setDelivery d, .of status payload)) :
    dispatch op read carry s = State.replied { s with delivery := d } r rest status payload :=
  dispatch_carried h hop (.inr ha) hl hr hc hu

end

/-! ### The length of a record's bytes (R199) -/

@[simp] theorem length_bytesBE (k v : Nat) : (bytesBE k v).length = k := by
  induction k generalizing v with
  | zero => rfl
  | succ k ih => simp [bytesBE, ih]

@[simp] theorem length_wordBytes (w : Word32) : (wordBytes w).length = 4 := length_bytesBE 4 _

@[simp] theorem length_intBytes (x : Int) : (intBytes x).length = 4 := length_wordBytes _

@[simp] theorem PosWord.length_encode (w : PosWord) : w.encode.length = 9 := by
  simp [PosWord.encode]

@[simp] theorem CaptureSource.length_encode (source : CaptureSource) : source.encode.length = 3 := by
  cases source <;> rfl

/-- The detail of every kind of record takes eight bytes (Table 10-6). -/
@[simp] theorem Detail.length_encode (d : Detail) : d.encode.length = 8 := by
  cases d <;> simp [Detail.encode]

/-- The bytes of a record number its encoded size (R199). -/
theorem Record.length_encode (x : Record) : x.encode.length = x.size := by
  have positions : (x.item.positions.map PosWord.encode).flatten.length = 9 * x.item.positions.length := by
    simp [List.length_flatten, Function.comp_def, Nat.mul_comm]
  simp only [Record.encode, Record.size, List.length_append, List.length_cons, List.length_nil, length_wordBytes,
    length_bytesBE, Detail.length_encode, positions]

/-! ### The number of records (R158) -/

/-- The bytes of a list of records. -/
def encodedSize (rs : List Record) : Nat := (rs.map Record.size).sum

@[simp] theorem encodedSize_nil : encodedSize [] = 0 := rfl

@[simp] theorem encodedSize_cons (x : Record) (rs : List Record) :
    encodedSize (x :: rs) = x.size + encodedSize rs := by
  simp [encodedSize]

/-- The records that fit are those of the longest prefix within the budget. -/
theorem le_fitting_iff {k budget : Nat} {rs : List Record} :
    k ≤ fitting budget rs ↔ k ≤ rs.length ∧ encodedSize (rs.take k) ≤ budget := by
  induction rs generalizing k budget with
  | nil => simp +contextual [fitting]
  | cons x rs ih =>
    cases k with
    | zero => simp
    | succ k =>
      by_cases hx : x.size ≤ budget
      · simp only [fitting, hx, if_true, Nat.add_le_add_iff_right, ih, List.length_cons, List.take_succ_cons,
          encodedSize_cons]
        omega
      · simp only [fitting, hx, if_false, List.take_succ_cons, encodedSize_cons]
        omega

/-- A FETCH(n) returns the most records that keep each of R158's four bounds. -/
theorem le_fetchCount_iff {k n : Nat} {s : State} :
    k ≤ fetchCount n s ↔ k ≤ n ∧ k ≤ s.delivery.window ∧ k ≤ s.queue.records.length ∧
      21 + encodedSize (s.queue.records.take k) ≤ 246 := by
  have fixed : Config.maxPayload - Config.fetchFixed = 225 := rfl
  rw [fetchCount, fixed, Nat.le_min, Nat.le_min, Nat.le_min, le_fitting_iff, RecordQueue.occupancy]
  omega

/-- The oldest record, of at most four position words, fits by itself. -/
theorem encodedSize_take_one_le {rs : List Record} (h : ∀ x ∈ rs, x.item.positions.length ≤ 4) :
    encodedSize (rs.take 1) ≤ 56 := by
  cases rs with
  | nil => exact Nat.zero_le _
  | cons x rs =>
    have := h x List.mem_cons_self
    simp only [List.take_succ_cons, List.take_zero, encodedSize_cons, encodedSize_nil, Record.size]
    omega

end Sys2Proof.Machine

namespace Sys2Proof.Proofs

open Sys2Proof.Machine

/-- Settles O37: both requests pass the dispatch checks and replace the delivery state, FETCH in POLL mode only; the
number of records is the greatest that keeps R158's bounds, so one more would break one of them. -/
theorem deliveryConfigAndFetchMoveTheSendPoint : Obligations.DeliveryConfigAndFetchMoveTheSendPoint := by
  refine ⟨?config, ?fetch, ?count⟩
  case config =>
    intro s r rest mode w t0 t1 h ha hop hp w1 w16 t10 t10000 t
    have length : RequestOp.deliveryConfig.lengthOk r.payload = true := by rw [hp]; rfl
    have operands : readDeliveryConfig (s.took rest) r.payload =
        some (mode, w.toNat, t0.toNat * 256 + t1.toNat) := by
      rw [hp]; exact readDeliveryConfig_bytes _ mode ⟨w1, w16⟩ ⟨t10, t10000⟩
    have effect : carryDeliveryConfig (mode, w.toNat, t0.toNat * 256 + t1.toNat) (s.took rest) =
        ((s.took rest).setDelivery t.delivery, .of .ok (deliveryPayload t)) := by
      simp only [carryDeliveryConfig, configureDelivery_eq]
      rfl
    exact congrArg Host.Outcome.next (dispatch_delivery_done h ha hop rfl length operands effect)
  case fetch =>
    intro s r rest n h ha hop hp n1 n16
    have length : RequestOp.fetch.lengthOk r.payload = true := by rw [hp]; rfl
    have operands : readFetch (s.took rest) r.payload = some n.toNat := by
      rw [hp]; exact readFetch_byte _ ⟨n1, n16⟩
    refine ⟨fun hm => ?stream, fun hm => ?poll⟩
    case stream =>
      exact congrArg Host.Outcome.next
        (dispatch_carried (op := .fetch) h hop (.inr ha) length operands (carryFetch_stream hm) rfl)
    case poll =>
      exact congrArg Host.Outcome.next (dispatch_delivery_done h ha hop rfl length operands (carryFetch_poll hm))
  case count =>
    intro s n k size
    obtain ⟨kn, kw, kq, fits⟩ := le_fetchCount_iff.mp (le_refl k)
    refine ⟨fits, kn, kw, kq, fun hn hw hq => ?most, fun hn hw hp hq => ?least, Record.length_encode⟩
    case most =>
      by_contra more
      exact absurd (le_fetchCount_iff.mpr ⟨hn, hw, hq, Nat.not_lt.mp more⟩) (Nat.not_succ_le_self k)
    case least =>
      have oldest : encodedSize (s.queue.records.take 1) ≤ 56 := encodedSize_take_one_le hp
      exact le_fetchCount_iff.mpr ⟨hn, hw, List.length_pos_iff.mpr hq, by omega⟩

end Sys2Proof.Proofs
end

section
/-! SUPPORT and the settling of O48, O49 and O56. What becomes of the Entry Pool and of the lists in a command, said once
for any property of the free count and the schedules: flags, states and counts change, a commit pends or goes, a list is
installed, an entry fires, a staging request takes or returns slots, or a reset empties everything (`PoolKept`). The count
of the slots (R27), the order of the lists (R31) and the freezing of a staging list (R38) are such properties. -/

namespace Sys2Proof.Machine

/-! ### What a command keeps of the pool and the lists -/

/-- Two lists with the same entries as programmed, armed flags and fire counts aside. -/
def SameEntries (es es' : List Entry) : Prop := es.map Entry.copy = es'.map Entry.copy

/-- What the command `c` keeps of the free count and the schedules. A commit is put in wait by COMMIT alone (R64), and a
staging list is written by its requests only while no commit is pending (R38). -/
structure PoolKept (c : Instr) (Q : Nat → Vector Schedule 4 → Prop) : Prop where
  same : ∀ f v (n : AxisId) (x : Schedule), SameEntries x.active v[n].active → x.staging = v[n].staging →
    x.commit = v[n].commit ∨ x.commit = none → Q f v → Q f (v.set n x)
  pend : c = .commit → ∀ f v (n : AxisId) p, v[n].commit = none → Q f v → Q f (v.set n { v[n] with commit := some p })
  install : ∀ f v (n : AxisId) (x : Schedule), SameEntries x.active v[n].staging → x.staging = [] → x.commit = none →
    Q f v → Q (f + v[n].active.length) (v.set n x)
  fire : ∀ f v (n : AxisId) e total, Q f v →
    Q (f + (v[n].active.length - (afterFiring e v[n].active).length))
      (v.set n { v[n] with active := afterFiring e v[n].active, total := total })
  add : ∀ f v (n : AxisId) batch, v[n].commit = none → (∀ e ∈ batch, e.armed = false ∧ e.fires = 0) →
    duplicateTag batch v[n].staging = false → batch.length ≤ f → Q f v →
    Q (f - batch.length) (v.set n { v[n] with staging := placeBatch batch v[n].staging })
  remove : ∀ f v (n : AxisId) tag, v[n].commit = none → (∃ e ∈ v[n].staging, e.tag = tag) → Q f v →
    Q (f + 1) (v.set n { v[n] with staging := v[n].staging.eraseP fun e => e.tag = tag })
  clear : ∀ f v (n : AxisId), v[n].commit = none → Q f v →
    Q (f + v[n].staging.length) (v.set n { v[n] with staging := [] })
  copy : ∀ f v (n : AxisId), v[n].commit = none → v[n].active.length ≤ f + v[n].staging.length → Q f v →
    Q (f + v[n].staging.length - v[n].active.length) (v.set n { v[n] with staging := v[n].active.map Entry.copy })
  stop : ∀ f v, Q f v → Q f (v.map fun x => { x with state := .stopped })
  reset : c = .coldReset ∨ c = .txFrameComplete → ∀ f v, Q f v → Q 512 (Vector.replicate 4 .reset)

theorem SameEntries.refl (es : List Entry) : SameEntries es es := rfl

theorem armAll_same (a : Axis) (h : Nat) (es : List Entry) : SameEntries (armAll a h es) es := by
  simp [SameEntries, armAll, Entry.copy]

theorem rearm_same (a : Axis) (h : Nat) (es : List Entry) : SameEntries (rearm a h es) es := by
  simp [SameEntries, rearm, Entry.copy]

theorem SameEntries.length {es es' : List Entry} (h : SameEntries es es') : es.length = es'.length := by
  simpa using congrArg List.length h

theorem readEntry_unfired {a : Axis} {bs : List Byte} {e : Entry} (h : readEntry a bs = some e) :
    e.armed = false ∧ e.fires = 0 := by
  unfold readEntry at h
  split at h
  · simp only at h
    split at h
    · cases h
    · simp only [Option.bind_eq_bind, Option.bind_eq_some_iff, Option.some.injEq] at h
      obtain ⟨_, _, _, _, rfl⟩ := h
      exact ⟨rfl, rfl⟩
  · cases h

/-- An entry of a batch is read disarmed and unfired (R30). -/
theorem readEntries_unfired {a : Axis} {k : Nat} {bs : List Byte} {es : List Entry} (h : readEntries a k bs = some es) :
    ∀ e ∈ es, e.armed = false ∧ e.fires = 0 := by
  induction k generalizing bs es with
  | zero => simp_all [readEntries]
  | succ k ih =>
    simp only [readEntries, Option.bind_eq_bind, Option.bind_eq_some_iff, Option.some.injEq] at h
    obtain ⟨e, he, es', hes, rfl⟩ := h
    simp only [List.mem_cons, forall_eq_or_imp]
    exact ⟨readEntry_unfired he, ih hes⟩

theorem readStageAdd_unfired {s : State} {bs : List Byte} {n : AxisId} {es : List Entry}
    (h : readStageAdd s bs = some (n, es)) : ∀ e ∈ es, e.armed = false ∧ e.fires = 0 := by
  unfold readStageAdd at h
  split at h
  · simp only [Option.bind_eq_bind, Option.bind_eq_some_iff, Option.some.injEq, Prod.mk.injEq] at h
    obtain ⟨_, _, _, _, _, hes, _, rfl⟩ := h
    exact readEntries_unfired hes
  · cases h

namespace PoolKept

variable {c : Instr} {Q : Nat → Vector Schedule 4 → Prop} {s t : State}

/-- An operation that leaves the free count and the schedules. -/
theorem of_eq (hf : t.free = s.free) (hs : t.scheds = s.scheds) (h : Q s.free s.scheds) : Q t.free t.scheds := by
  rwa [hf, hs]

theorem recordIf (e : Bool) (i : Item) (h : Q s.free s.scheds) : Q (s.produceIf e i).free (s.produceIf e i).scheds := by
  rwa [State.produceIf_free, State.produceIf_scheds]

theorem schedRecord (n : AxisId) (reason : SchedReason) (h : Q s.free s.scheds) :
    Q (schedRecord n reason s).free (schedRecord n reason s).scheds := recordIf _ _ h

theorem axisRecord (n : AxisId) (reason : AxisReason) (h : Q s.free s.scheds) :
    Q (axisRecord n reason s).free (axisRecord n reason s).scheds := recordIf _ _ h

/-- The schedule enters RUNNING, or re-evaluates its flags (R40, R42, R56). -/
theorem evaluate (k : PoolKept c Q) (n : AxisId) (state : SchedState) (h : Q s.free s.scheds) :
    Q (s.setSched n { s.sched n with state := state, active := armAll (s.axis n) (s.sched n).h (s.sched n).active }).free
      (s.setSched n { s.sched n with state := state, active := armAll (s.axis n) (s.sched n).h (s.sched n).active }).scheds :=
  k.same _ _ n _ (armAll_same _ _ _) rfl (.inl rfl) h

theorem setState (k : PoolKept c Q) (n : AxisId) (state : SchedState) (h : Q s.free s.scheds) :
    Q (s.setSched n { s.sched n with state := state }).free (s.setSched n { s.sched n with state := state }).scheds :=
  k.same _ _ n _ (.refl _) rfl (.inl rfl) h

theorem startSchedule (k : PoolKept c Q) (n : AxisId) (h : Q s.free s.scheds) :
    Q (startSchedule n s).free (startSchedule n s).scheds := by
  unfold Machine.startSchedule
  split
  · exact k.evaluate n .running h
  · exact h

theorem stopSchedule (k : PoolKept c Q) (n : AxisId) (h : Q s.free s.scheds) :
    Q (stopSchedule n s).free (stopSchedule n s).scheds := k.setState n .stopped h

theorem cancelCommit (k : PoolKept c Q) (n : AxisId) (h : Q s.free s.scheds) :
    Q (cancelCommit n s).free (cancelCommit n s).scheds :=
  schedRecord n _ (k.same _ _ n { s.sched n with commit := none } (.refl _) rfl (.inr rfl) h)

theorem departure (k : PoolKept c Q) (n : AxisId) (h : Q s.free s.scheds) :
    Q (departure n s).free (departure n s).scheds := by
  have held : Q (holdSchedule n s).free (holdSchedule n s).scheds := by
    unfold holdSchedule
    split
    · exact schedRecord n _ (k.setState n .held h)
    · exact h
  unfold Machine.departure
  simp only
  split
  · exact k.cancelCommit n held
  · exact held
  · exact held

theorem departIf (k : PoolKept c Q) (was : RefState) (n : AxisId) (h : Q s.free s.scheds) :
    Q (departIf was n s).free (departIf was n s).scheds := by
  unfold Machine.departIf
  split
  · exact k.departure n h
  · exact h

theorem jump (k : PoolKept c Q) (n : AxisId) (h : Q s.free s.scheds) : Q (jump n s).free (jump n s).scheds := by
  unfold Machine.jump
  split
  · exact k.evaluate n _ h
  · exact h

theorem installList (k : PoolKept c Q) (n : AxisId) (run : Bool) (h : Q s.free s.scheds) :
    Q (installList n run s).free (installList n run s).scheds :=
  schedRecord n _ (k.install _ _ n _ (armAll_same _ _ _) rfl rfl h)

theorem completeIfEmpty (k : PoolKept c Q) (n : AxisId) (h : Q s.free s.scheds) :
    Q (completeIfEmpty n s).1.free (completeIfEmpty n s).1.scheds := by
  unfold Machine.completeIfEmpty
  split
  · exact schedRecord n _ (k.stopSchedule n h)
  · exact h

theorem takeCommit (k : PoolKept c Q) (n : AxisId) (run : Bool) (h : Q s.free s.scheds) :
    Q (takeCommit n run s).1.free (takeCommit n run s).1.scheds := k.completeIfEmpty n (k.installList n run h)

theorem takeSchedAct (k : PoolKept c Q) (n : AxisId) (act : SchedAct) (h : Q s.free s.scheds) :
    Q (takeSchedAct n act s).1.free (takeSchedAct n act s).1.scheds := by
  cases act with
  | start => exact k.startSchedule n h
  | stop => exact k.stopSchedule n h
  | commit =>
    show Q (routeCommit n s).1.free (routeCommit n s).1.scheds
    unfold routeCommit
    split
    · exact k.takeCommit n _ h
    · exact h
    · exact h

theorem reachCommit (k : PoolKept c Q) (n : AxisId) (h : Q s.free s.scheds) :
    Q (reachCommit n s).free (reachCommit n s).scheds := by
  unfold Machine.reachCommit
  split
  · split
    · exact k.installList n _ h
    · exact h
  · exact h
  · exact h

theorem issueAction (l : LineId) (act : OutAction) (h : Q s.free s.scheds) :
    Q (issueAction l act s).free (issueAction l act s).scheds := by
  obtain ⟨_, _, _, he⟩ := issueAction_frame l act s
  rw [he]
  exact h

theorem keptByAxes (k : PoolKept c Q) : KeptByAxes (fun _ => True) (fun s => Q s.free s.scheds) where
  routes := fun _ _ h => h
  record := fun _ _ h => h
  output := fun _ l act h => issueAction l act h
  schedule := fun _ n act _ h => k.takeSchedAct n act h
  axis := fun _ _ _ _ h => h
  advance := fun _ _ h => h
  wires := fun _ _ _ h => h
  finish := fun _ n e h => k.fire _ _ n e _ h
  rearm := fun _ n h => k.same _ _ n _ (rearm_same _ _ _) rfl (.inl rfl) h
  reach := fun _ n h => k.reachCommit n h
  complete := fun _ n h => k.completeIfEmpty n h
  depart := fun _ n h => k.departure n h
  jump := fun _ n h => k.jump n h

/-! ### The requests -/

theorem carryStageAdd (k : PoolKept c Q) {bs : List Byte} {p : AxisId × List Entry} (hr : readStageAdd s bs = some p)
    (h : Q s.free s.scheds) : Q (carryStageAdd p s).1.free (carryStageAdd p s).1.scheds := by
  obtain ⟨n, batch⟩ := p
  unfold Machine.carryStageAdd
  simp only
  split
  · exact h
  · rename_i hc
    split
    · exact h
    · rename_i hd
      split
      · exact h
      · rename_i hf
        exact k.add _ _ n batch (Option.not_isSome_iff_eq_none.mp hc) (readStageAdd_unfired hr)
          (Bool.eq_false_iff.mpr hd) (Nat.not_lt.mp hf) h

theorem carryStageRemove (k : PoolKept c Q) (p : AxisId × Nat) (h : Q s.free s.scheds) :
    Q (carryStageRemove p s).1.free (carryStageRemove p s).1.scheds := by
  obtain ⟨n, tag⟩ := p
  unfold Machine.carryStageRemove
  simp only
  split
  · exact h
  · rename_i hc
    split
    · rename_i ha
      obtain ⟨e, he, ht⟩ := List.any_eq_true.mp ha
      exact k.remove _ _ n tag (Option.not_isSome_iff_eq_none.mp hc) ⟨e, he, of_decide_eq_true ht⟩ h
    · exact h

theorem carryStageClear (k : PoolKept c Q) (n : AxisId) (h : Q s.free s.scheds) :
    Q (carryStageClear n s).1.free (carryStageClear n s).1.scheds := by
  unfold Machine.carryStageClear
  simp only
  split
  · exact h
  · rename_i hc
    exact k.clear _ _ n (Option.not_isSome_iff_eq_none.mp hc) h

theorem carryStageCopy (k : PoolKept c Q) (n : AxisId) (h : Q s.free s.scheds) :
    Q (carryStageCopy n s).1.free (carryStageCopy n s).1.scheds := by
  unfold Machine.carryStageCopy
  simp only
  split
  · exact h
  · rename_i hc
    split
    · exact h
    · rename_i hf
      exact k.copy _ _ n (Option.not_isSome_iff_eq_none.mp hc) (Nat.not_lt.mp hf) h

theorem carryCommit (k : PoolKept c Q) (hcom : c = .commit) (p : AxisId × CommitMode × Bool) (h : Q s.free s.scheds) :
    Q (carryCommit p s).1.free (carryCommit p s).1.scheds := by
  obtain ⟨n, mode, run⟩ := p
  unfold Machine.carryCommit
  simp only
  split
  · exact h
  · rename_i hc
    have pends : ∀ p, Q (s.setSched n { s.sched n with commit := some p }).free
        (s.setSched n { s.sched n with commit := some p }).scheds := fun p =>
      k.pend hcom _ _ n p (Option.not_isSome_iff_eq_none.mp hc) h
    split
    · exact k.keptByAxes.sendEvents _ _ (k.takeCommit n run h)
    · exact pends _
    · split
      · exact pends _
      · exact h

theorem carrySchedStart (k : PoolKept c Q) (n : AxisId) (h : Q s.free s.scheds) :
    Q (carrySchedStart n s).1.free (carrySchedStart n s).1.scheds := by
  unfold Machine.carrySchedStart
  split
  · exact h
  · split
    · exact h
    · split
      · exact h
      · exact k.evaluate n .running h

theorem carryAxisConfig (k : PoolKept c Q) (p : AxisId × AxisConfig × AxisMode) (h : Q s.free s.scheds) :
    Q (carryAxisConfig p s).1.free (carryAxisConfig p s).1.scheds := by
  obtain ⟨n, x, m⟩ := p
  unfold Machine.carryAxisConfig
  simp only
  split
  · refine k.jump n (k.departIf _ n (axisRecord n _ ?_))
    exact h
  · exact h

theorem carryHomeCancel (n : AxisId) (h : Q s.free s.scheds) :
    Q (carryHomeCancel n s).1.free (carryHomeCancel n s).1.scheds := by
  unfold Machine.carryHomeCancel
  split
  · refine axisRecord n _ ?_
    exact h
  all_goals exact h

/-- What the operations on the pool and the schedules keep, the command keeps. -/
theorem keptByCommand (k : PoolKept c Q) : KeptByCommand c (fun s => Q s.free s.scheds) where
  toKeptByRoutes := k.keptByAxes.toKeptByRoutes
  toKeptByEvents := k.keptByAxes.events fun _ _ _ h => h
  advance := fun _ _ h => h
  wires := fun _ _ _ h => h
  timebase := fun _ _ _ h => h
  timeSet := fun _ _ _ h => h
  syncLoad := fun _ s arm h => by
    refine recordIf _ _ ?_
    exact h
  trigger := fun _ _ _ h => h
  link := fun _ _ _ h => h
  pending := fun _ _ h => h
  cold := fun hc _ h => k.reset (.inl hc) _ _ h
  warm := fun hc _ h => k.reset (.inr hc) _ _ h
  completion := fun _ _ h => h
  endLead := fun s l h => by
    unfold endLead
    split
    · exact h
    · split <;> exact h
  endGap := fun s l h => by
    unfold endGap
    split
    · exact h
    · split <;> exact h
  endPulse := fun s l h => by
    unfold endPulse
    split
    · exact h
    · split <;> exact h
  outputConfig := fun s p h => by
    unfold carryOutputConfig
    simp only
    split <;> exact h
  outputAction := fun s p h => by
    unfold carryOutputAction
    simp only
    split
    · exact h
    · obtain ⟨_, _, _, he⟩ := takeAction_frame p.1 p.2 s
      simp only [he]
      exact h
  outputStop := fun _ _ h => h
  enterSafe := fun s h => by
    obtain ⟨_, _, _, he⟩ := enterSafe_frame s
    rw [he]
    exact h
  leaveSafe := fun s h => by
    unfold leaveSafe
    split <;> exact h
  enables := fun _ _ h => h
  ackTimeout := fun s h => by
    unfold ackTimeout
    split <;> exact h
  notice := fun _ s a p _ h => by
    unfold judgeNotice
    split
    · split <;> exact h
    · exact h
  endSession := fun _ h => h
  handover := fun _ _ _ h => h
  attach := fun s p h => by
    unfold carryAttach
    simp only
    split <;> exact h
  deliveryConfig := fun _ _ _ _ _ h => h
  fetch := fun s b p _ _ h => by
    unfold carryFetch
    split <;> exact h
  stopAll := fun _ h => k.stop _ _ h
  axisConfig := fun _ _ p _ h => k.carryAxisConfig p h
  setPosition := fun _ _ p _ h => k.jump p.1 (axisRecord p.1 _ h)
  home := fun _ p h => k.departIf _ p.1 h
  homeCancel := fun _ n h => carryHomeCancel n h
  stageAdd := fun _ _ _ hr h => k.carryStageAdd hr h
  stageRemove := fun _ p h => k.carryStageRemove p h
  stageClear := fun _ n h => k.carryStageClear n h
  stageCopy := fun _ n h => k.carryStageCopy n h
  schedConfig := fun _ p h => k.same _ _ p.1 _ (.refl _) rfl (.inl rfl) h
  cancel := fun _ n h => k.cancelCommit n h
  start := fun _ n h => k.carrySchedStart n h
  commit := fun hc _ p h => k.carryCommit hc p h

end PoolKept

/-! ### The count of the slots -/

/-- The slots that the lists of a schedule take (R27). -/
def Schedule.slots (x : Schedule) : Nat := x.active.length + x.staging.length

/-- The slots that all eight lists take. -/
def slotsTaken (v : Vector Schedule 4) : Nat := (Config.allAxes.map fun n => v[n].slots).sum

theorem heldEntries_eq (s : State) : heldEntries s = slotsTaken s.scheds := rfl

/-- Replacing one schedule exchanges its slots. -/
theorem slotsTaken_set (v : Vector Schedule 4) (n : AxisId) (x : Schedule) :
    slotsTaken (v.set n x) + v[n].slots = slotsTaken v + x.slots := by
  have all : ∀ w : Vector Schedule 4, slotsTaken w = w[0].slots + (w[1].slots + (w[2].slots + w[3].slots)) := fun _ => rfl
  rw [all, all]
  match n with
  | 0 => simp; omega
  | 1 => simp; omega
  | 2 => simp; omega
  | 3 => simp; omega

/-- A schedule replaced by one that takes other slots, the free count changing by as many. -/
theorem slotsTaken_exchange {f g : Nat} {v : Vector Schedule 4} {n : AxisId} {x : Schedule}
    (hx : g + x.slots = f + v[n].slots) (h : f + slotsTaken v = 512) : g + slotsTaken (v.set n x) = 512 := by
  have := slotsTaken_set v n x
  omega

theorem length_placeEntry (e : Entry) (l : List Entry) : (placeEntry e l).length = l.length + 1 := by
  induction l with
  | nil => rfl
  | cons x xs ih =>
    unfold placeEntry
    split
    · simp [ih]
    · rfl

theorem length_placeBatch (batch l : List Entry) : (placeBatch batch l).length = l.length + batch.length := by
  induction batch generalizing l with
  | nil => rfl
  | cons e es ih =>
    rw [placeBatch, List.foldl_cons]
    change (placeBatch es (placeEntry e l)).length = _
    rw [ih, length_placeEntry, List.length_cons]
    omega

theorem length_afterFiring_le (e : Entry) (es : List Entry) : (afterFiring e es).length ≤ es.length := by
  unfold afterFiring
  split
  · exact List.length_eraseP_le
  · exact (List.length_map _).le

/-- Every operation keeps the number of slots (R27, R28). -/
theorem slotsKept (c : Instr) : PoolKept c fun f v => f + slotsTaken v = 512 where
  same := fun _ _ _ _ ha hs _ => slotsTaken_exchange (by simp [Schedule.slots, ha.length, hs])
  pend := fun _ _ _ _ _ _ => slotsTaken_exchange (by simp [Schedule.slots])
  install := fun _ _ _ _ ha hs _ => slotsTaken_exchange (by simp [Schedule.slots, ha.length, hs]; omega)
  fire := fun f v n e total => slotsTaken_exchange (by
    have := length_afterFiring_le e v[n].active
    simp only [Schedule.slots]
    omega)
  add := fun f v n batch _ _ _ hf => slotsTaken_exchange (by
    simp only [Schedule.slots, length_placeBatch]
    omega)
  remove := fun f v n tag _ he => slotsTaken_exchange (by
    obtain ⟨e, he, ht⟩ := he
    have pos : 0 < v[n].staging.length := List.length_pos_of_mem he
    have left : (v[n].staging.eraseP fun e => e.tag = tag).length = v[n].staging.length - 1 :=
      List.length_eraseP_of_mem he (decide_eq_true ht)
    simp only [Schedule.slots, left]
    omega)
  clear := fun f v n _ => slotsTaken_exchange (by simp [Schedule.slots]; omega)
  copy := fun f v n _ hf => slotsTaken_exchange (by
    simp only [Schedule.slots, List.length_map]
    omega)
  stop := fun f v h => by
    have : slotsTaken (v.map fun x => { x with state := .stopped }) = slotsTaken v := by
      simp [slotsTaken, Schedule.slots]
    rw [this]
    exact h
  reset := fun _ _ _ _ => rfl

/-! ### The order of the lists -/

theorem listOk_map_copy {es : List Entry} : ListOk (es.map Entry.copy) ↔ ListOk es := by
  simp [ListOk, List.pairwise_map, Entry.copy, Function.comp_def]

/-- The order is one of the entries as programmed. -/
theorem SameEntries.listOk {es es' : List Entry} (h : SameEntries es es') (ho : ListOk es') : ListOk es :=
  listOk_map_copy.mp (h ▸ listOk_map_copy.mpr ho)

theorem ListOk.sublist {es es' : List Entry} (h : ListOk es) (hs : es'.Sublist es) : ListOk es' :=
  ⟨h.1.sublist hs, h.2.sublist (hs.map _)⟩

/-- A firing takes its entry out of the list, or counts and disarms it (R51, R52). -/
theorem ListOk.afterFiring {es : List Entry} (h : ListOk es) (e : Entry) : ListOk (afterFiring e es) := by
  unfold Machine.afterFiring
  split
  · exact h.sublist List.eraseP_sublist
  · refine SameEntries.listOk ?_ h
    simp only [SameEntries, List.map_map]
    refine List.map_congr_left fun x _ => ?_
    simp only [Function.comp_apply]
    split <;> rfl

theorem placeEntry_perm (e : Entry) (l : List Entry) : (placeEntry e l).Perm (e :: l) := by
  induction l with
  | nil => exact .refl _
  | cons x xs ih =>
    unfold placeEntry
    split
    · exact (ih.cons x).trans (.swap e x xs)
    · exact .refl _

theorem placeBatch_perm (batch l : List Entry) : (placeBatch batch l).Perm (batch ++ l) := by
  induction batch generalizing l with
  | nil => exact .refl _
  | cons e es ih =>
    calc placeBatch (e :: es) l = placeBatch es (placeEntry e l) := rfl
      List.Perm _ (es ++ placeEntry e l) := ih _
      List.Perm _ (es ++ e :: l) := (placeEntry_perm e l).append_left es
      List.Perm _ (e :: es ++ l) := List.perm_middle

/-- An entry placed after those at or below its position leaves a sorted list sorted (R32). -/
theorem placeEntry_sorted (e : Entry) {l : List Entry} (h : l.Pairwise (fun x y => x.position ≤ y.position)) :
    (placeEntry e l).Pairwise (fun x y => x.position ≤ y.position) := by
  induction l with
  | nil => exact List.pairwise_singleton _ _
  | cons x xs ih =>
    obtain ⟨hx, hxs⟩ := List.pairwise_cons.mp h
    unfold placeEntry
    split
    · rename_i hle
      refine List.pairwise_cons.mpr ⟨fun y hy => ?_, ih hxs⟩
      rcases List.mem_cons.mp ((placeEntry_perm e xs).subset hy) with rfl | hy
      · exact hle
      · exact hx y hy
    · rename_i hgt
      refine List.pairwise_cons.mpr ⟨fun y hy => ?_, h⟩
      rcases List.mem_cons.mp hy with rfl | hy
      · omega
      · have := hx y hy
        omega

theorem placeBatch_sorted (batch : List Entry) {l : List Entry} (h : l.Pairwise (fun x y => x.position ≤ y.position)) :
    (placeBatch batch l).Pairwise (fun x y => x.position ≤ y.position) := by
  induction batch generalizing l with
  | nil => exact h
  | cons e es ih => exact ih (placeEntry_sorted e h)

/-- No tag is used twice in a batch, nor in the batch and the list (R34). -/
theorem duplicateTag_eq_false {batch staging : List Entry} :
    duplicateTag batch staging = false ↔
      (batch.map Entry.tag).Nodup ∧ ∀ e ∈ batch, ∀ x ∈ staging, x.tag ≠ e.tag := by
  simp [duplicateTag]

theorem ListOk.placeBatch {batch l : List Entry} (h : ListOk l) (hd : duplicateTag batch l = false) :
    ListOk (placeBatch batch l) := by
  obtain ⟨hb, hx⟩ := duplicateTag_eq_false.mp hd
  refine ⟨placeBatch_sorted batch h.1, ?_⟩
  rw [((placeBatch_perm batch l).map _).nodup_iff, List.map_append, List.nodup_append]
  refine ⟨hb, h.2, ?_⟩
  simp only [List.mem_map]
  rintro _ ⟨e, he, rfl⟩ _ ⟨x, hxl, rfl⟩
  exact (hx e he x hxl).symm

/-- Both lists of a schedule are in order, and its staging entries are disarmed and unfired (R30, R31). -/
def Schedule.Ordered (x : Schedule) : Prop :=
  ListOk x.active ∧ ListOk x.staging ∧ ∀ e ∈ x.staging, e.armed = false ∧ e.fires = 0

theorem listOk_nil : ListOk [] := ⟨.nil, .nil⟩

/-- What holds of every schedule holds still when one is replaced by another of which it holds. -/
theorem forall_set {P : Schedule → Prop} {v : Vector Schedule 4} {n : AxisId} {x : Schedule}
    (hx : P v[n] → P x) (h : ∀ m : AxisId, P v[m]) (m : AxisId) : P (v.set n x)[m] := by
  simp only [Fin.getElem_fin, Vector.getElem_set]
  split
  · exact hx (h n)
  · exact h m

/-- Every operation keeps the lists in order. -/
theorem orderKept (c : Instr) : PoolKept c fun _ v => ∀ m : AxisId, v[m].Ordered where
  same := fun _ _ _ _ ha hs _ => forall_set fun ⟨hact, hst⟩ => ⟨ha.listOk hact, hs ▸ hst⟩
  pend := fun _ _ _ _ _ _ => forall_set id
  install := fun _ _ _ _ ha hs _ => forall_set fun ⟨_, hst, _⟩ =>
    ⟨ha.listOk hst, hs ▸ listOk_nil, by simp [hs]⟩
  fire := fun _ _ _ e _ => forall_set fun ⟨hact, hst⟩ => ⟨hact.afterFiring e, hst⟩
  add := fun _ _ _ batch _ hb hd _ => forall_set fun ⟨hact, hst, hu⟩ => by
    refine ⟨hact, hst.placeBatch hd, fun e he => ?_⟩
    rcases List.mem_append.mp ((placeBatch_perm batch _).subset he) with he | he
    · exact hb e he
    · exact hu e he
  remove := fun _ _ _ _ _ _ => forall_set fun ⟨hact, hst, hu⟩ =>
    ⟨hact, hst.sublist List.eraseP_sublist, fun e he => hu e (List.mem_of_mem_eraseP he)⟩
  clear := fun _ _ _ _ => forall_set fun ⟨hact, _, _⟩ => ⟨hact, listOk_nil, by simp⟩
  copy := fun _ _ _ _ _ => forall_set fun ⟨hact, _, _⟩ =>
    ⟨hact, listOk_map_copy.mpr hact, by simp [Entry.copy]⟩
  stop := fun _ v h m => by
    simp only [Fin.getElem_fin, Vector.getElem_map]
    exact h m
  reset := fun _ _ _ _ m => by
    simp only [Fin.getElem_fin, Vector.getElem_replicate]
    exact ⟨listOk_nil, listOk_nil, by simp [Schedule.reset]⟩

/-! ### The staging list while a commit pends -/

/-- The commit of a schedule is no longer pending, or it and the staging list are these (R38). -/
def StillFrozen (p : Option PendingCommit) (staging : List Entry) (x : Schedule) : Prop :=
  x.commit = none ∨ (x.commit = p ∧ x.staging = staging)

/-- Replacing a schedule keeps what is said of one, if what replaces that one does. -/
theorem at_set {P : Schedule → Prop} {v : Vector Schedule 4} {n m : AxisId} {x : Schedule}
    (hx : P v[n] → P x) (h : P v[m]) : P (v.set n x)[m] := by
  by_cases hm : n = m
  · subst hm
    simpa using hx h
  · have : n.val ≠ m.val := fun e => hm (Fin.ext e)
    simpa [Vector.getElem_set_ne _ _ this] using h

/-- Every command but COMMIT keeps a staging list whose commit pends (R38). -/
theorem frozenKept {c : Instr} (hc : c ≠ .commit) (n : AxisId) (p : Option PendingCommit) (staging : List Entry) :
    PoolKept c fun _ v => StillFrozen p staging v[n] where
  same := fun _ _ _ _ _ hs hx => at_set fun h => by
    rcases hx with hx | hx
    · exact h.imp (hx.trans ·) fun ⟨h1, h2⟩ => ⟨hx.trans h1, hs.trans h2⟩
    · exact .inl hx
  pend := fun h => absurd h hc
  install := fun _ _ _ _ _ _ hx => at_set fun _ => .inl hx
  fire := fun _ _ _ _ _ => at_set id
  add := fun _ _ _ _ hn _ _ _ => at_set fun _ => .inl hn
  remove := fun _ _ _ _ hn _ => at_set fun _ => .inl hn
  clear := fun _ _ _ hn => at_set fun _ => .inl hn
  copy := fun _ _ _ hn _ => at_set fun _ => .inl hn
  stop := fun _ v h => by
    simp only [Fin.getElem_fin, Vector.getElem_map]
    exact h
  reset := fun _ _ _ _ => by
    simp only [Fin.getElem_fin, Vector.getElem_replicate]
    exact .inl rfl

/-- A dispatched request leaves what holds of the state and of what carrying it out there gives, whatever becomes of the
link. -/
theorem dispatch_result {α : Type} {R : State → Prop} {op : RequestOp} {read : State → List Byte → Option α}
    {carry : α → State → State × Answer} {s : State} (link : ∀ t l, R t → R (t.setLink l)) (h : R s)
    (effect : ∀ p l, R (carry p (s.setLink l)).1) : R (dispatch op read carry s) := by
  have store : ∀ r reply t, R t → R (storeReply r reply t) := by
    intro r reply t ht
    unfold storeReply
    split
    · exact link _ _ ht
    · exact ht
  rcases takeRequest_cases (fun b => decide (b = op.code)) (carryChecked op read carry) s with
    he | ⟨r, rest, -, -, -, -, ⟨e, -, he⟩ | ⟨-, he⟩⟩
  · unfold dispatch
    rwa [he]
  · unfold dispatch
    rw [he]
    unfold answerRetry queueReply
    split
    · exact link _ _ (link _ _ (link _ _ h))
    · exact link _ _ (link _ _ h)
  · unfold dispatch
    rw [he]
    refine store _ _ _ (link _ _ ?_)
    unfold carryChecked
    split
    · exact link _ _ h
    · split
      · exact link _ _ h
      · split
        · exact link _ _ h
        · exact effect _ _

/-- COMMIT puts no commit in wait where one pends (R64). -/
theorem carryCommit_frozen {n : AxisId} {s : State} {p : Option PendingCommit} {staging : List Entry} (hp : p ≠ none)
    (hc : (s.sched n).commit = p) (hs : (s.sched n).staging = staging) (q : AxisId × CommitMode × Bool) :
    StillFrozen p staging ((carryCommit q s).1.sched n) := by
  obtain ⟨m, mode, run⟩ := q
  have h : StillFrozen p staging (s.sched n) := .inr ⟨hc, hs⟩
  have k := frozenKept (c := .coldReset) nofun n p staging
  unfold carryCommit
  simp only
  split
  · exact h
  · rename_i hm
    have other : n ≠ m := fun e => hm (by rw [← e, hc, Option.isSome_iff_ne_none]; exact hp)
    have pends : ∀ x, StillFrozen p staging ((s.setSched m x).sched n) := fun x => by
      rwa [State.setSched_sched_ne _ _ _ other]
    split
    · exact k.keptByAxes.sendEvents _ _ (k.takeCommit m run h)
    · exact pends _
    · split
      · exact pends _
      · exact h

end Sys2Proof.Machine

namespace Sys2Proof.Proofs

open Sys2Proof.Machine

/-- Settles O48: every operation keeps the sum of the free slots and those taken. -/
theorem poolCountIsKept : Obligations.PoolCountIsKept := fun s t h he =>
  step_keeps (fun c => (slotsKept c).keptByCommand) s t h he

/-- Settles O49: every operation keeps the order of the lists. -/
theorem listsStayInOrder : Obligations.ListsStayInOrder := fun s t h he =>
  step_keeps (fun c => (orderKept c).keptByCommand) s t h he

/-- Settles O56: every command but COMMIT keeps the staging list or ends the pending commit, and COMMIT is refused on the
schedule whose commit pends. -/
theorem stagingIsFrozenWhileACommitPends : Obligations.StagingIsFrozenWhileACommitPends := by
  intro s t n hp he
  show StillFrozen (s.sched n).commit (s.sched n).staging (t.sched n)
  unfold step at he
  split at he
  · cases he
    exact .inr ⟨rfl, rfl⟩
  · rename_i c rest _
    by_cases hc : c = .commit
    · subst hc
      cases he
      exact dispatch_result (R := fun t => StillFrozen _ _ (t.sched n)) (fun _ _ h => h) (.inr ⟨rfl, rfl⟩)
        fun q l => carryCommit_frozen (s := State.setLink { s with pending := rest } l) hp rfl rfl q
    · exact (frozenKept hc n _ _).keptByCommand.exec { s with pending := rest } t (.inr ⟨rfl, rfl⟩) he

end Sys2Proof.Proofs
end

section
/-! SUPPORT. The frames of the requests and of the events of the lines and the link: which parts of the state each can
change at all. A property that does not look at those parts is kept. -/

namespace Sys2Proof.Machine

variable {n : AxisId} {s t u : State}

/-! ### One axis and its schedule -/

/-- `t` is `s` with axis n, its schedule, the lines' changes and the free count replaced, and records handed over. -/
def OnAxis (n : AxisId) (s t : State) : Prop :=
  ∃ w x c f q, Grown s.queue q ∧
    t = { s with wires := w, axes := s.axes.set n x, scheds := s.scheds.set n c, free := f, queue := q }

theorem OnAxis.refl (n : AxisId) (s : State) : OnAxis n s s :=
  ⟨s.wires, s.axis n, s.sched n, s.free, s.queue, .refl _, by simp [State.axis, State.sched]⟩

theorem OnAxis.setAxis (h : OnAxis n s t) (x : Axis) : OnAxis n s (t.setAxis n x) := by
  obtain ⟨w, _, c, f, q, hq, rfl⟩ := h
  exact ⟨w, x, c, f, q, hq, by simp [State.setAxis]⟩

theorem OnAxis.schedule (h : OnAxis n s t) (hu : OnSchedule n t u) : OnAxis n s u := by
  obtain ⟨w, x, _, _, _, hq, rfl⟩ := h
  obtain ⟨c, f, q, hq', rfl⟩ := hu
  exact ⟨w, x, c, f, q, hq.trans hq', by simp⟩

theorem OnAxis.lineChange (h : OnAxis n s t) (w : Wires) : OnAxis n s (t.setWires w) := by
  obtain ⟨_, x, c, f, q, hq, rfl⟩ := h
  exact ⟨w, x, c, f, q, hq, rfl⟩

theorem OnAxis.axisRecord (h : OnAxis n s t) (reason : AxisReason) : OnAxis n s (axisRecord n reason t) := by
  obtain ⟨w, x, c, f, q, hq, rfl⟩ := h
  rw [axisRecord_eq]
  exact ⟨w, x, c, f, _, hq.offer _ _, rfl⟩

theorem OnAxis.departIf (h : OnAxis n s t) (was : RefState) : OnAxis n s (departIf was n t) := by
  unfold Machine.departIf
  split
  · exact h.schedule (departure_frame n t)
  · exact h

theorem OnAxis.jump (h : OnAxis n s t) : OnAxis n s (jump n t) := h.schedule (jump_frame n t)

/-- An operation on a schedule, seen as one on its axis. -/
theorem OnSchedule.onAxis (h : OnSchedule n s t) : OnAxis n s t := (OnAxis.refl n s).schedule h

theorem carryAxisConfig_frame (p : AxisId × AxisConfig × AxisMode) (s : State) :
    OnAxis p.1 s (carryAxisConfig p s).1 := by
  unfold carryAxisConfig
  simp only
  split
  · exact ((((OnAxis.refl _ s).lineChange _).setAxis _).axisRecord _).departIf _ |>.jump
  · exact .refl _ s

theorem carrySetPosition_frame (p : AxisId × Position) (s : State) : OnAxis p.1 s (carrySetPosition p s).1 :=
  (((OnAxis.refl _ s).setAxis _).axisRecord _).jump

theorem carryHome_frame (p : AxisId × HomingParams) (s : State) : OnAxis p.1 s (carryHome p s).1 :=
  ((OnAxis.refl _ s).setAxis _).departIf _

theorem carryHomeCancel_frame (n : AxisId) (s : State) : OnAxis n s (carryHomeCancel n s).1 := by
  unfold carryHomeCancel
  split
  · exact ((OnAxis.refl _ s).setAxis _).axisRecord _
  all_goals exact .refl _ s

/-! ### One schedule -/

theorem carryStageAdd_frame (p : AxisId × List Entry) (s : State) : OnSchedule p.1 s (carryStageAdd p s).1 := by
  unfold carryStageAdd
  simp only
  split
  · exact .refl _ s
  · split
    · exact .refl _ s
    · split
      · exact .refl _ s
      · exact ((OnSchedule.refl _ s).setFree _).setSched _

theorem carryStageRemove_frame (p : AxisId × Nat) (s : State) : OnSchedule p.1 s (carryStageRemove p s).1 := by
  unfold carryStageRemove
  simp only
  split
  · exact .refl _ s
  · split
    · exact ((OnSchedule.refl _ s).setFree _).setSched _
    · exact .refl _ s

theorem carryStageClear_frame (n : AxisId) (s : State) : OnSchedule n s (carryStageClear n s).1 := by
  unfold carryStageClear
  simp only
  split
  · exact .refl _ s
  · exact ((OnSchedule.refl _ s).setFree _).setSched _

theorem carryStageCopy_frame (n : AxisId) (s : State) : OnSchedule n s (carryStageCopy n s).1 := by
  unfold carryStageCopy
  simp only
  split
  · exact .refl _ s
  · split
    · exact .refl _ s
    · exact ((OnSchedule.refl _ s).setFree _).setSched _

theorem carrySchedConfig_frame (p : AxisId × Nat) (s : State) : OnSchedule p.1 s (carrySchedConfig p s).1 :=
  (OnSchedule.refl _ s).setSched _

theorem carrySchedStart_frame (n : AxisId) (s : State) : OnSchedule n s (carrySchedStart n s).1 := by
  unfold carrySchedStart
  split
  · exact .refl _ s
  · split
    · exact .refl _ s
    · split
      · exact .refl _ s
      · exact (OnSchedule.refl _ s).setSched _

/-- COMMIT changes what the schedules and the Route Table can (R64, R67). -/
theorem carryCommit_frame (p : AxisId × CommitMode × Bool) (s : State) : RoutesChange s (carryCommit p s).1 := by
  unfold carryCommit
  simp only
  split
  · exact .refl s
  · split
    · exact (takeCommit_frame _ _ s).routesChange.trans (sendEvents_frame _ _)
    · exact ((OnSchedule.refl _ s).setSched _).routesChange
    · split
      · exact ((OnSchedule.refl _ s).setSched _).routesChange
      · exact .refl s

/-! ### The output lines -/

/-- `t` is `s` some time later, with the output lines and the SAFE condition replaced, and records handed over. -/
def OnLines (s t : State) : Prop :=
  ∃ d lines safe q, Grown s.queue q ∧ t = { s.advance d with lines := lines, safe := safe, queue := q }

theorem OnLines.of_now {lines : Vector Line 8} {safe : Bool} {q : RecordQueue} (hq : Grown s.queue q)
    (ht : t = { s with lines := lines, safe := safe, queue := q }) : OnLines s t :=
  ⟨0, lines, safe, q, hq, by rw [State.advance_zero, ht]⟩

theorem OnLines.refl (s : State) : OnLines s s := .of_now (.refl _) rfl

theorem endLead_frame (l : LineId) (s : State) : OnLines s (endLead l s) := by
  unfold endLead
  split
  · exact .refl s
  · split
    · exact ⟨_, _, _, _, .refl _, rfl⟩
    · exact .refl s
    · exact .refl s

theorem endGap_frame (l : LineId) (s : State) : OnLines s (endGap l s) := by
  unfold endGap
  split
  · exact .refl s
  · split
    · exact ⟨_, _, _, _, .refl _, rfl⟩
    · exact .refl s
    · exact .refl s

theorem endPulse_frame (l : LineId) (s : State) : OnLines s (endPulse l s) := by
  unfold endPulse
  split
  · exact .refl s
  · split
    · exact ⟨_, _, _, _, .refl _, rfl⟩
    · exact .refl s
    · exact .refl s

theorem carryOutputConfig_frame (p : LineId × Level × Level × Policy × Bool) (s : State) :
    OnLines s (carryOutputConfig p s).1 := by
  unfold carryOutputConfig
  simp only
  split
  · exact .refl s
  · exact .of_now (.refl _) rfl

theorem carryOutputAction_frame (p : LineId × OutAction) (s : State) : OnLines s (carryOutputAction p s).1 := by
  unfold carryOutputAction
  simp only
  split
  · exact .refl s
  · obtain ⟨_, _, hq, he⟩ := takeAction_frame p.1 p.2 s
    exact .of_now hq he

theorem carryOutputStop_frame (l : LineId) (s : State) : OnLines s (carryOutputStop l s).1 := .of_now (.refl _) rfl

theorem enterSafe_onLines (s : State) : OnLines s (enterSafe s) := by
  obtain ⟨_, _, hq, he⟩ := enterSafe_frame s
  exact .of_now hq he

theorem leaveSafe_frame (s : State) : OnLines s (leaveSafe s) := by
  unfold leaveSafe
  split
  · exact .of_now (.refl _) rfl
  · exact .refl s

/-! ### Delivery and the link -/

/-- `t` is `s` some time later, with the delivery state and the link replaced. -/
def OnLink (s t : State) : Prop := ∃ d delivery link, t = { s.advance d with delivery := delivery, link := link }

theorem OnLink.of_now {delivery : Delivery} {link : Link} (ht : t = { s with delivery := delivery, link := link }) :
    OnLink s t := ⟨0, delivery, link, by rw [State.advance_zero, ht]⟩

theorem ackTimeout_frame (s : State) : OnLink s (ackTimeout s) := by
  unfold ackTimeout
  split
  · exact .of_now rfl
  · exact ⟨_, _, _, rfl⟩

theorem endSession_frame (s : State) : OnLink s (endSession s) := .of_now rfl

theorem handover_frame (s : State) : OnLink s (handover s) := .of_now rfl

theorem carryAttach_frame (p : Session) (s : State) : OnLink s (carryAttach p s).1 := by
  unfold carryAttach
  simp only
  split <;> exact .of_now rfl

theorem carryDeliveryConfig_frame (p : DeliveryMode × Nat × Nat) (s : State) : OnLink s (carryDeliveryConfig p s).1 :=
  .of_now rfl

theorem carryFetch_frame (k : Nat) (s : State) : OnLink s (carryFetch k s).1 := by
  unfold carryFetch
  split <;> exact .of_now rfl

/-- A notice changes the delivery state, and a valid ACK the queue (R155 to R157). -/
theorem judgeNotice_frame (ack : Bool) (payload : List Byte) (s : State) :
    ∃ delivery q, judgeNotice ack payload s = { s with delivery := delivery, queue := q } := by
  unfold judgeNotice
  split
  · split <;> exact ⟨_, _, rfl⟩
  · exact ⟨_, _, rfl⟩

theorem syncLoad_eq (arm : SyncArm) (s : State) :
    syncLoad arm s = { s with
      timebase := { s.timebase with count := arm.value, arm := none }
      queue := s.queue.offer s.queue.enables.timeSync ⟨.timeSync s.timebase.count, arm.value, []⟩ } :=
  State.produceIf_eq _ _ _

end Sys2Proof.Machine
end

section
/-! SUPPORT and the settling of O51. R76 says of every output line what `Line.Settled` says of one: a waiting action
stands only beside a running one under QUEUE, and neither is there while SAFE. Each operation of the Output Unit keeps
it, and no other operation reaches a line. -/

namespace Sys2Proof.Machine

/-! ### One line -/

/-- R76 for one line of a unit that is SAFE or not. -/
def Line.Settled (safe : Bool) (x : Line) : Prop :=
  (x.waiting ≠ none → x.running ≠ none ∧ x.policy = .queue) ∧ (safe = true → x.running = none ∧ x.waiting = none)

section
variable {safe : Bool} {x y : Line} {now : Nat}

/-- A line on which nothing runs or waits. -/
theorem Line.Settled.idle (hr : x.running = none) (hw : x.waiting = none) : x.Settled safe :=
  ⟨fun h => absurd hw h, fun _ => ⟨hr, hw⟩⟩

/-- A line of a unit that is not SAFE, on which nothing waits. -/
theorem Line.Settled.not_waiting (hw : x.waiting = none) : x.Settled false := ⟨fun h => absurd hw h, nofun⟩

theorem Line.Settled.of_same (h : x.Settled safe) (hr : y.running = x.running) (hw : y.waiting = x.waiting)
    (hp : y.policy = x.policy) : y.Settled safe := by
  unfold Line.Settled
  rw [hr, hw, hp]
  exact h

/-- Nothing waits on a free line. -/
theorem Line.Settled.waiting_of_free (h : x.Settled safe) (hr : x.running = none) : x.waiting = none :=
  Classical.byContradiction fun hw => (h.1 hw).1 hr

/-- Nothing waits under PREEMPT and under DROP. -/
theorem Line.Settled.waiting_of_policy (h : x.Settled safe) (hp : x.policy ≠ .queue) : x.waiting = none :=
  Classical.byContradiction fun hw => hp (h.1 hw).2

/-- While an action runs the unit is not SAFE. -/
theorem Line.Settled.not_safe (h : x.Settled safe) (hr : x.running ≠ none) : safe = false :=
  Bool.eq_false_iff.mpr fun hs => hr (h.2 hs).1

/-- The running action gives way to another phase of it. -/
theorem Line.Settled.next_phase (h : x.Settled safe) (hr : x.running ≠ none) (run : Running) (hy : y.running = some run)
    (hw : y.waiting = x.waiting) (hp : y.policy = x.policy) : y.Settled safe := by
  refine ⟨fun hn => ⟨by simp [hy], ?_⟩, fun hs => absurd (h.2 hs).1 hr⟩
  rw [hp]
  exact (h.1 (hw ▸ hn)).2

@[simp] theorem Line.takeFree_waiting (act : OutAction) (x : Line) : (x.takeFree now act).waiting = x.waiting := by
  unfold Line.takeFree
  split <;> try rfl
  unfold Line.start
  simp only
  split
  · rfl
  · split <;> rfl

@[simp] theorem Line.cutShort_waiting (x : Line) : (x.cutShort now).waiting = x.waiting := by
  unfold Line.cutShort
  split
  · rfl
  · split <;> rfl

@[simp] theorem Line.stop_waiting (x : Line) : (x.stop now).waiting = none := rfl

@[simp] theorem Line.stop_running (x : Line) : (x.stop now).running = none := by rw [Line.stop_eq]

/-- A pulse ends (R80, R81): a GAP follows, the line is free, or its waiting action is taken. -/
theorem Line.Settled.endPulse (h : x.Settled safe) {run : Running} (hr : x.running = some run) :
    (x.endPulse now run).Settled safe := by
  have occupied : x.running ≠ none := by simp [hr]
  unfold Line.endPulse
  simp only
  split
  · exact h.next_phase occupied _ rfl rfl rfl
  · split
    · rename_i hw
      exact .idle rfl hw
    · rw [h.not_safe occupied]
      exact .not_waiting (Line.takeFree_waiting _ _)

end

/-! ### The unit -/

/-- R76 for the lines of a unit. -/
def LinesSettled (safe : Bool) (v : Vector Line 8) : Prop := ∀ l : LineId, v[l].Settled safe

theorem outputInv_iff {s : State} : OutputInv s ↔ LinesSettled s.safe s.lines := Iff.rfl

section
variable {safe : Bool} {v : Vector Line 8} {l : LineId} {s : State}

theorem LinesSettled.set (h : LinesSettled safe v) {x : Line} (hx : x.Settled safe) : LinesSettled safe (v.set l x) := by
  intro m
  simp only [Fin.getElem_fin, Vector.getElem_set]
  split
  · exact hx
  · exact h m

theorem LinesSettled.map (f : Line → Line) (hf : ∀ l : LineId, (f v[l]).Settled safe) : LinesSettled safe (v.map f) := by
  intro m
  simp only [Fin.getElem_fin, Vector.getElem_map]
  exact hf m

theorem setLine_settled (h : OutputInv s) {x : Line} (hx : x.Settled s.safe) : OutputInv (s.setLine l x) :=
  LinesSettled.set h hx

theorem OutputInv.dropAction (h : OutputInv s) (reason : LineReason) : OutputInv (dropAction l reason s) := by
  rw [dropAction_eq]
  have line : (s.line l).Settled s.safe := h l
  exact LinesSettled.set h (line.of_same rfl rfl rfl)

/-- A line takes an action while the unit is not SAFE (R78 to R85). -/
theorem OutputInv.takeAction (h : OutputInv s) (hs : s.safe = false) (act : OutAction) :
    OutputInv (takeAction l act s).1 := by
  have line : (s.line l).Settled s.safe := h l
  unfold Machine.takeAction
  split
  · rename_i hr
    refine setLine_settled h (hs ▸ .not_waiting ?_)
    rw [Line.takeFree_waiting]
    exact line.waiting_of_free hr
  · rename_i run hr
    split
    · rename_i hp
      have free : (s.line l).waiting = none := line.waiting_of_policy (by simp [hp])
      simp only [preempt_eq]
      refine LinesSettled.set (LinesSettled.set h (hs ▸ .not_waiting ?_)) (hs ▸ .not_waiting ?_)
      · exact (Line.cutShort_waiting _).trans free
      · simp only [State.line, Fin.getElem_fin, Vector.getElem_set_self, Line.takeFree_waiting, Line.cutShort_waiting]
        exact free
    · rename_i hp
      split
      · exact setLine_settled h ⟨fun _ => ⟨by simp [hr], hp⟩, fun h' => absurd h' (by simp [hs])⟩
      · exact h.dropAction _
    · exact h.dropAction _

theorem OutputInv.issueAction (h : OutputInv s) (act : OutAction) : OutputInv (issueAction l act s) := by
  unfold Machine.issueAction
  split
  · exact h.dropAction _
  · rename_i hs
    exact h.takeAction (Bool.eq_false_iff.mpr hs) act

theorem OutputInv.of_eq {t : State} (h : OutputInv s) (hl : t.lines = s.lines) (hs : t.safe = s.safe) : OutputInv t := by
  rw [outputInv_iff, hl, hs]
  exact h

theorem OnSchedule.outputInv {n : AxisId} {t : State} (ht : OnSchedule n s t) (h : OutputInv s) : OutputInv t := by
  obtain ⟨_, _, _, _, rfl⟩ := ht
  exact h

theorem OutputInv.produceIf (h : OutputInv s) (e : Bool) (i : Item) : OutputInv (s.produceIf e i) :=
  h.of_eq (State.produceIf_lines _ _ _) (State.produceIf_safe _ _ _)

theorem OutputInv.keptByAxes : KeptByAxes (fun _ => True) OutputInv where
  routes := fun _ _ h => h
  record := fun _ _ h => h
  output := fun _ _ act h => h.issueAction act
  schedule := fun s n act _ h => (takeSchedAct_frame n act s).outputInv h
  axis := fun _ _ _ _ h => h
  advance := fun _ _ h => h
  wires := fun _ _ _ h => h
  finish := fun _ _ _ h => h
  rearm := fun _ _ h => h
  reach := fun s n h => (reachCommit_frame n s).outputInv h
  complete := fun s n h => (completeIfEmpty_frame n s).outputInv h
  depart := fun s n h => (departure_frame n s).outputInv h
  jump := fun s n h => (jump_frame n s).outputInv h

/-- A phase of a running action ends, and another of the same action follows. -/
theorem OutputInv.next_phase (h : OutputInv s) {run : Running} (hr : (s.line l).running = some run) (t : Nat)
    (run' : Running) : OutputInv ((s.runTo t).setLine l { s.line l with running := some run' }) := by
  have line : (s.line l).Settled s.safe := h l
  exact LinesSettled.set h (line.next_phase (by simp [hr]) run' rfl rfl rfl)

theorem OutputInv.endLead (h : OutputInv s) : OutputInv (endLead l s) := by
  unfold Machine.endLead
  split
  · exact h
  · rename_i run hr
    split
    · exact h.next_phase hr _ _
    · exact h
    · exact h

theorem OutputInv.endGap (h : OutputInv s) : OutputInv (endGap l s) := by
  unfold Machine.endGap
  split
  · exact h
  · rename_i run hr
    split
    · exact h.next_phase hr _ _
    · exact h
    · exact h

theorem OutputInv.endPulse (h : OutputInv s) : OutputInv (endPulse l s) := by
  have line : (s.line l).Settled s.safe := h l
  unfold Machine.endPulse
  split
  · exact h
  · rename_i run hr
    split
    · exact LinesSettled.set h (line.endPulse hr)
    · exact h
    · exact h

theorem OutputInv.carryOutputConfig (h : OutputInv s) (p : LineId × Level × Level × Policy × Bool) :
    OutputInv (carryOutputConfig p s).1 := by
  unfold Machine.carryOutputConfig
  simp only
  split
  · exact h
  · exact setLine_settled h (.idle (Line.stop_running _) rfl)

theorem OutputInv.carryOutputAction (h : OutputInv s) (p : LineId × OutAction) : OutputInv (carryOutputAction p s).1 := by
  unfold Machine.carryOutputAction
  simp only
  split
  · exact h
  · rename_i hs
    exact h.takeAction (Bool.eq_false_iff.mpr hs) p.2

/-- SAFE entry empties every line (R93). -/
theorem OutputInv.enterSafe (h : OutputInv s) : OutputInv (enterSafe s) := by
  unfold Machine.enterSafe
  split
  · exact h
  · have stopped : LinesSettled true (s.lines.map (Line.stop s.now)) :=
      .map _ fun l => .idle (Line.stop_running _) rfl
    exact OutputInv.produceIf (s := { s with lines := s.lines.map (Line.stop s.now), safe := true }) stopped _ _

theorem OutputInv.leaveSafe (h : OutputInv s) : OutputInv (leaveSafe s) := by
  unfold Machine.leaveSafe
  split
  · rename_i hs
    refine LinesSettled.map _ fun l => .idle ?_ ?_
    · exact ((h l).2 hs).1
    · exact ((h l).2 hs).2
  · exact h

/-- Nothing runs or waits after a reset (Table 4-1). -/
theorem LinesSettled.reset : LinesSettled false (Vector.replicate 8 Line.reset) := fun l => by
  simp only [Fin.getElem_fin, Vector.getElem_replicate]
  exact .idle rfl rfl

theorem OnAxis.outputInv {n : AxisId} {t : State} (ht : OnAxis n s t) (h : OutputInv s) : OutputInv t := by
  obtain ⟨_, _, _, _, _, _, rfl⟩ := ht
  exact h

theorem OutputInv.carryCommit (p : AxisId × CommitMode × Bool) (h : OutputInv s) :
    OutputInv (Machine.carryCommit p s).1 := by
  unfold Machine.carryCommit
  simp only
  split
  · exact h
  · split
    · exact OutputInv.keptByAxes.sendEvents _ _ ((takeCommit_frame _ _ s).outputInv h)
    · exact h
    · split <;> exact h

theorem OnLink.outputInv {t : State} (ht : OnLink s t) (h : OutputInv s) : OutputInv t := by
  obtain ⟨_, _, _, rfl⟩ := ht
  exact h

theorem OutputInv.keptByCommand (c : Instr) : KeptByCommand c OutputInv where
  toKeptByRoutes := OutputInv.keptByAxes.toKeptByRoutes
  toKeptByEvents := OutputInv.keptByAxes.events fun _ _ _ h => h
  advance := fun _ _ h => h
  wires := fun _ _ _ h => h
  timebase := fun _ _ _ h => h
  timeSet := fun _ _ _ h => h
  syncLoad := fun _ s arm h => by
    rw [syncLoad_eq]
    exact h
  trigger := fun _ _ _ h => h
  link := fun _ _ _ h => h
  pending := fun _ _ h => h
  cold := fun _ _ _ => LinesSettled.reset
  warm := fun _ _ _ => LinesSettled.reset
  completion := fun _ _ h => h
  endLead := fun _ _ h => h.endLead
  endGap := fun _ _ h => h.endGap
  endPulse := fun _ _ h => h.endPulse
  outputConfig := fun _ p h => h.carryOutputConfig p
  outputAction := fun _ p h => h.carryOutputAction p
  outputStop := fun _ _ h => setLine_settled h (.idle (Line.stop_running _) rfl)
  enterSafe := fun _ h => h.enterSafe
  leaveSafe := fun _ h => h.leaveSafe
  enables := fun _ _ h => h
  ackTimeout := fun s => (ackTimeout_frame s).outputInv
  notice := fun _ s ack payload _ h => by
    obtain ⟨_, _, he⟩ := judgeNotice_frame ack payload s
    rw [he]
    exact h
  endSession := fun s => (endSession_frame s).outputInv
  handover := fun s _ _ => (handover_frame s).outputInv
  attach := fun s p => (carryAttach_frame p s).outputInv
  deliveryConfig := fun s _ p _ _ => (carryDeliveryConfig_frame p s).outputInv
  fetch := fun s _ k _ _ => (carryFetch_frame k s).outputInv
  stopAll := fun _ h => h
  axisConfig := fun s _ p _ => (carryAxisConfig_frame p s).outputInv
  setPosition := fun s _ p _ => (carrySetPosition_frame p s).outputInv
  home := fun s p => (carryHome_frame p s).outputInv
  homeCancel := fun s n => (carryHomeCancel_frame n s).outputInv
  stageAdd := fun s _ p _ => (carryStageAdd_frame p s).outputInv
  stageRemove := fun s p => (carryStageRemove_frame p s).outputInv
  stageClear := fun s n => (carryStageClear_frame n s).outputInv
  stageCopy := fun s n => (carryStageCopy_frame n s).outputInv
  schedConfig := fun s p => (carrySchedConfig_frame p s).outputInv
  cancel := fun s n => (cancelCommit_frame n s).outputInv
  start := fun s n => (carrySchedStart_frame n s).outputInv
  commit := fun _ _ p => OutputInv.carryCommit p

end
end Sys2Proof.Machine

namespace Sys2Proof.Proofs

open Sys2Proof.Machine

/-- Settles O51: every operation of the Output Unit keeps R76 on every line. -/
theorem occupationOfTheLinesIsKept : Obligations.OccupationOfTheLinesIsKept := fun s t h he =>
  step_keeps OutputInv.keptByCommand s t h he

end Sys2Proof.Proofs
end

section
/-! SUPPORT and the settling of O55. The position of an axis lies in its range (Table 1-1): counts keep it there or are
refused (R7, R8), and what homing, a correction and the requests put in its place lies there too. The changes of the
lines stay in order, since whatever takes a change leaves the later ones. -/

namespace Sys2Proof.Machine

/-! ### One axis -/

/-- A position in the range that its form has (Table 1-1). -/
def Position.Within (cpr : Nat) : Position → Prop
  | .linear x => -2147483648 ≤ x ∧ x ≤ 2147483647
  | .rotary _ angle => angle < cpr

/-- An axis whose counts per revolution and position lie in their ranges. -/
structure Axis.Ranged (x : Axis) : Prop where
  four : 4 ≤ x.config.cpr
  top : x.config.cpr ≤ 16777216
  within : x.position.Within x.config.cpr

theorem positionsInv_iff {s : State} : PositionsInv s ↔ ∀ n, (s.axis n).Ranged := by
  refine forall_congr' fun n => ⟨fun ⟨h4, ht, hw⟩ => ⟨h4, ht, ?_⟩, fun h => ⟨h.four, h.top, ?_⟩⟩
  · revert hw
    cases (s.axis n).position <;> exact id
  · have hw := h.within
    revert hw
    cases (s.axis n).position <;> exact id

section
variable {x y : Axis}

/-- An axis with the same configuration and a position in range. -/
theorem Axis.Ranged.moved (h : x.Ranged) (hc : y.config = x.config) (hp : y.position.Within x.config.cpr) : y.Ranged :=
  ⟨hc ▸ h.four, hc ▸ h.top, hc ▸ hp⟩

theorem Axis.Ranged.of_same (h : x.Ranged) (hc : y.config = x.config) (hp : y.position = x.position) : y.Ranged :=
  h.moved hc (hp ▸ h.within)

/-- A count keeps the position in its range (R7, R8). -/
theorem countPosition_within {cpr : Nat} {d : Dir} {p q : Position} (h4 : 4 ≤ cpr) (hp : p.Within cpr)
    (hq : countPosition cpr d p = some q) : q.Within cpr := by
  cases p with
  | linear x =>
    by_cases out : x + d.step < Config.minLinear ∨ Config.maxLinear < x + d.step
    · rw [countPosition, if_pos out] at hq
      cases hq
    · rw [countPosition, if_neg out, Option.some.injEq] at hq
      subst hq
      simp only [Config.minLinear, Config.maxLinear] at out
      simp only [Position.Within]
      omega
  | rotary turn angle =>
    simp only [Position.Within] at hp
    cases d <;> simp only [countPosition] at hq <;> split at hq <;> injection hq with hq <;> subst hq <;>
      simp only [Position.Within] <;> omega

theorem Word32.toInt_within (w : Word32) (cpr : Nat) : (Position.linear w.toInt).Within cpr := by
  have lower := BitVec.le_toInt w
  have upper := BitVec.toInt_lt (x := w)
  simp only [Position.Within]
  omega

theorem presetPosition_within (preset : Word32) {cpr : Nat} (h4 : 4 ≤ cpr) (p : Position) :
    (presetPosition preset p).Within cpr := by
  cases p with
  | linear x => exact Word32.toInt_within preset cpr
  | rotary turn angle => exact Nat.lt_of_lt_of_le (by decide) h4

theorem correctPosition_within (slip : Int) {cpr : Nat} (h4 : 4 ≤ cpr) {p : Position} (hp : p.Within cpr) :
    (correctPosition slip p).Within cpr := by
  cases p with
  | linear x => exact hp
  | rotary turn angle => exact Nat.lt_of_lt_of_le (by decide) h4

theorem AxisMode.zero_within (m : AxisMode) {cpr : Nat} (h4 : 4 ≤ cpr) : m.zero.Within cpr := by
  cases m with
  | linear => exact ⟨by decide, by decide⟩
  | rotary => exact Nat.lt_of_lt_of_le (by decide) h4

theorem readRange_eq_some {lo hi k v : Nat} (h : readRange lo hi k = some v) : lo ≤ v ∧ v ≤ hi := by
  unfold readRange at h
  split at h
  · injection h with h
    exact h ▸ ‹_›
  · cases h

/-- AXIS_CONFIG is given counts per revolution in range (Table 1-1). -/
theorem readAxisConfig_cpr {s : State} {bs : List Byte} {n : AxisId} {c : AxisConfig} {m : AxisMode}
    (h : readAxisConfig s bs = some (n, c, m)) : 4 ≤ c.cpr ∧ c.cpr ≤ 16777216 := by
  unfold readAxisConfig at h
  split at h
  · simp only [Option.bind_eq_bind, Option.bind_eq_some_iff, Option.some.injEq, Prod.mk.injEq] at h
    obtain ⟨_, _, _, _, _, _, _, _, _, hcpr, _, _, _, _, _, rfl, _⟩ := h
    exact readRange_eq_some hcpr
  · cases h

/-- AXIS_SET_POSITION is given a position in the range of its axis (R23). -/
theorem readSetPosition_within {s : State} {bs : List Byte} {n : AxisId} {p : Position}
    (h : readSetPosition s bs = some (n, p)) : p.Within (s.axis n).config.cpr := by
  unfold readSetPosition at h
  split at h
  · simp only [Option.bind_eq_bind, Option.bind_eq_some_iff] at h
    obtain ⟨m, _, h⟩ := h
    split at h
    · simp only [Option.some.injEq, Prod.mk.injEq] at h
      obtain ⟨rfl, rfl⟩ := h
      exact Word32.toInt_within _ _
    · rename_i hm
      split at h
      · rename_i hr
        simp only [Option.some.injEq, Prod.mk.injEq] at h
        obtain ⟨rfl, rfl⟩ := h
        simp only [Axis.inRange, hm, decide_eq_true_eq] at hr
        simp only [Position.Within]
        omega
      · cases h
  · cases h

end

/-! ### The operations -/

section
variable {n : AxisId} {s t : State}

theorem PositionsInv.setAxis (h : PositionsInv s) {x : Axis} (hx : (s.axis n).Ranged → x.Ranged) :
    PositionsInv (s.setAxis n x) := by
  refine positionsInv_iff.mpr fun m => ?_
  have h := positionsInv_iff.mp h
  by_cases hm : m = n
  · subst hm
    rw [State.setAxis_axis_same]
    exact hx (h m)
  · rw [State.setAxis_axis_ne _ _ _ hm]
    exact h m

theorem PositionsInv.of_eq (h : PositionsInv s) (ha : t.axes = s.axes) : PositionsInv t := by
  have : ∀ m, t.axis m = s.axis m := fun m => by simp only [State.axis, ha]
  exact positionsInv_iff.mpr fun m => this m ▸ positionsInv_iff.mp h m

theorem RoutesChange.positionsInv (ht : RoutesChange s t) (h : PositionsInv s) : PositionsInv t := by
  obtain ⟨_, _, _, _, _, _, rfl⟩ := ht
  exact h

theorem OnSchedule.positionsInv (ht : OnSchedule n s t) (h : PositionsInv s) : PositionsInv t :=
  ht.routesChange.positionsInv h

theorem OnLines.positionsInv (ht : OnLines s t) (h : PositionsInv s) : PositionsInv t := by
  obtain ⟨_, _, _, _, _, rfl⟩ := ht
  exact h

theorem OnLink.positionsInv (ht : OnLink s t) (h : PositionsInv s) : PositionsInv t := by
  obtain ⟨_, _, _, rfl⟩ := ht
  exact h

theorem PositionsInv.axisRecord (h : PositionsInv s) (reason : AxisReason) : PositionsInv (axisRecord n reason s) := by
  rw [axisRecord_eq]
  exact h

theorem PositionsInv.departIf (h : PositionsInv s) (was : RefState) : PositionsInv (departIf was n s) := by
  unfold Machine.departIf
  split
  · exact (departure_frame n s).positionsInv h
  · exact h

theorem PositionsInv.jump (h : PositionsInv s) : PositionsInv (jump n s) := (jump_frame n s).positionsInv h

theorem PositionsInv.sendEvent (h : PositionsInv s) (source : EventSource) (time : Ticks) :
    PositionsInv (sendEvent source time s) := (sendEvent_frame source time s).positionsInv h

/-- A change that leaves the configuration and the position of its axis. -/
theorem PositionsInv.touch (h : PositionsInv s) (x : Axis) (hc : x.config = (s.axis n).config)
    (hp : x.position = (s.axis n).position) : PositionsInv (s.setAxis n x) :=
  h.setAxis fun hx => hx.of_same hc hp

theorem PositionsInv.enterLost (h : PositionsInv s) (reason : LostReason) : PositionsInv (enterLost n reason s) :=
  (((h.touch { s.axis n with ref := .lost reason } rfl rfl).axisRecord _).departIf _).sendEvent _ _

theorem PositionsInv.takePair (h : PositionsInv s) (c : PairChange) : PositionsInv (s.takePair n c) :=
  PositionsInv.touch (s := (s.runTo c.time).setAxisWires n c.wires) h _ rfl rfl

theorem PositionsInv.takeIndex (h : PositionsInv s) (c : LineChange) : PositionsInv (s.takeIndex n c) :=
  PositionsInv.touch (s := (s.runTo c.time).setAxisWires n { s.axisWires n with index := c.left }) h _ rfl rfl

theorem PositionsInv.applyCount (h : PositionsInv s) (d : Dir) (takes : List Nat) :
    PositionsInv (applyCount n d takes s) := by
  unfold Machine.applyCount
  split
  · rename_i p hp
    exact (countNotice_frame n d takes _).positionsInv
      (h.setAxis fun hx => hx.moved rfl (countPosition_within hx.four hx.within hp))
  · split
    · exact h
    · exact h.enterLost _

theorem PositionsInv.countEvent (h : PositionsInv s) (takes : List Nat) : PositionsInv (countEvent n takes s) := by
  unfold Machine.countEvent
  split
  · exact h
  · split
    · exact (h.takePair _).applyCount _ _
    · exact h

theorem PositionsInv.quadratureError (h : PositionsInv s) : PositionsInv (quadratureError n s) := by
  unfold Machine.quadratureError
  split
  · exact h
  · rename_i c _
    split
    · unfold countError
      have counted := (h.takePair (n := n) c).touch (n := n)
        { (s.takePair n c).axis n with errors := inc16 ((s.takePair n c).axis n).errors } rfl rfl
      simp only
      split
      · exact counted.enterLost _
      · exact counted
    · exact h

theorem PositionsInv.decoderChange (h : PositionsInv s) (lines : DecoderLines) :
    PositionsInv (decoderChange n lines s) := by
  cases lines with
  | pair =>
    show PositionsInv (pairChange n s)
    unfold pairChange
    split
    · exact h
    · split
      · exact h
      · exact h.takePair _
  | index =>
    show PositionsInv (indexFall n s)
    unfold indexFall
    split
    · exact h.takeIndex _
    · exact h
    · exact h

theorem PositionsInv.completeHoming (h : PositionsInv s) : PositionsInv (completeHoming n s) := by
  unfold Machine.completeHoming
  refine PositionsInv.jump (PositionsInv.axisRecord (PositionsInv.setAxis h fun hx => ?_) _)
  exact hx.moved rfl (presetPosition_within _ hx.four _)

theorem PositionsInv.homingIndex (h : PositionsInv s) : PositionsInv (homingIndex n s) := by
  unfold Machine.homingIndex
  simp only
  split
  · split
    · exact h.completeHoming
    · exact h
  all_goals exact h

theorem PositionsInv.homingEdge (h : PositionsInv s) (k : TriggerId) : PositionsInv (homingEdge k s n) := by
  unfold Machine.homingEdge
  simp only
  split
  · split
    · exact h.touch _ rfl rfl
    · exact h
  · split
    · exact h.completeHoming
    · exact h
  · exact h

theorem PositionsInv.foldl_homingEdge (h : PositionsInv s) (k : TriggerId) (ns : List AxisId) :
    PositionsInv (ns.foldl (Machine.homingEdge k) s) := by
  induction ns generalizing s with
  | nil => exact h
  | cons n ns ih => exact ih (h.homingEdge k)

theorem PositionsInv.checkArrival (h : PositionsInv s) (slip : Int) : PositionsInv (checkArrival n slip s) := by
  unfold Machine.checkArrival
  simp only
  split
  · exact h.enterLost _
  · split
    · refine PositionsInv.jump (PositionsInv.setAxis h fun hx => ?_)
      exact hx.moved rfl (correctPosition_within slip hx.four hx.within)
    · exact h

theorem PositionsInv.indexArrival (h : PositionsInv s) : PositionsInv (indexArrival n s) := by
  unfold Machine.indexArrival
  split
  · rename_i c _ _
    have taken : PositionsInv (s.takeIndex n c) := h.takeIndex c
    have reported : ∀ slip time, PositionsInv (indexRecord n ((s.takeIndex n c).axis n) slip time
        (noteIndex n (s.takeIndex n c))) := fun slip time => by
      refine PositionsInv.of_eq ?_ (State.produceIf_axes _ _ _)
      exact taken.touch _ rfl rfl
    unfold arrive
    simp only
    refine (PositionsInv.homingIndex ?_).sendEvent _ _
    split
    · exact (reported _ _).checkArrival _
    · exact reported _ _
  · exact h
  · exact h

theorem PositionsInv.triggerEdge (h : PositionsInv s) (k : TriggerId) (before after : List AxisId) :
    PositionsInv (triggerEdge k before after s) := by
  unfold Machine.triggerEdge
  split
  · unfold takeEdge
    simp only
    split
    · split
      · exact h
      · unfold deliverEdge
        refine PositionsInv.foldl_homingEdge (PositionsInv.sendEvent (PositionsInv.foldl_homingEdge ?_ k _) _ _) k _
        exact h
    · exact h
  · exact h

theorem PositionsInv.keptByRoutes : KeptByRoutes none PositionsInv where
  routes := fun _ _ h => h
  record := fun _ _ h => h
  output := fun s l act h => by
    obtain ⟨_, _, _, he⟩ := issueAction_frame l act s
    rw [he]
    exact h
  schedule := fun s n act _ h => (takeSchedAct_frame n act s).positionsInv h

theorem PositionsInv.carryAxisConfig {bs : List Byte} {p : AxisId × AxisConfig × AxisMode}
    (hr : readAxisConfig s bs = some p) (h : PositionsInv s) : PositionsInv (carryAxisConfig p s).1 := by
  obtain ⟨n, c, m⟩ := p
  obtain ⟨four, top⟩ := readAxisConfig_cpr hr
  unfold Machine.carryAxisConfig
  simp only
  split
  · refine PositionsInv.jump (PositionsInv.departIf (PositionsInv.axisRecord
      (PositionsInv.setAxis (s := s.forgetReturned n) h fun _ => ?_) _) _)
    exact ⟨four, top, m.zero_within four⟩
  · exact h

theorem PositionsInv.carrySetPosition {bs : List Byte} {p : AxisId × Position} (hr : readSetPosition s bs = some p)
    (h : PositionsInv s) : PositionsInv (carrySetPosition p s).1 := by
  unfold Machine.carrySetPosition
  refine PositionsInv.jump (PositionsInv.axisRecord (PositionsInv.setAxis h fun hx => ?_) _)
  exact hx.moved rfl (readSetPosition_within hr)

theorem PositionsInv.carryHome (p : AxisId × HomingParams) (h : PositionsInv s) : PositionsInv (carryHome p s).1 :=
  (h.touch { s.axis p.1 with homing := p.2, ref := .seeking p.2.source.firstSub } rfl rfl).departIf _

theorem PositionsInv.carryHomeCancel (n : AxisId) (h : PositionsInv s) : PositionsInv (carryHomeCancel n s).1 := by
  unfold Machine.carryHomeCancel
  split
  · exact (h.touch { s.axis n with ref := .unreferenced } rfl rfl).axisRecord _
  all_goals exact h

theorem PositionsInv.completeReset (reason : HelloReason) (h : PositionsInv s) : PositionsInv (completeReset reason s) := by
  refine positionsInv_iff.mpr fun n => (positionsInv_iff.mp h n).of_same ?_ ?_ <;> simp [Machine.completeReset, State.axis]

/-- Every axis stands at 0 after a reset (Table 1-1). -/
theorem PositionsInv.of_reset (ht : t.axes = s.axes.map fun x => .reset x.decoder) : PositionsInv t := by
  refine positionsInv_iff.mpr fun n => ?_
  have : t.axis n = .reset (s.axis n).decoder := by simp [State.axis, ht]
  rw [this]
  have zero : (AxisMode.linear.zero).Within 4096 := AxisMode.linear.zero_within (by decide)
  exact ⟨by simp [Axis.reset, AxisConfig.reset], by simp [Axis.reset, AxisConfig.reset], zero⟩

theorem PositionsInv.keptByCommand (c : Instr) : KeptByCommand c PositionsInv where
  toKeptByRoutes := PositionsInv.keptByRoutes
  countEvent := fun _ takes _ h => h.countEvent takes
  quadratureError := fun _ _ h => h.quadratureError
  indexArrival := fun _ _ h => h.indexArrival
  decoderChange := fun _ lines _ h => h.decoderChange lines
  triggerEdge := fun k before after _ h => h.triggerEdge k before after
  advance := fun _ _ h => h
  wires := fun _ _ _ h => h
  timebase := fun _ _ _ h => h
  timeSet := fun _ _ _ h => h
  syncLoad := fun _ s arm h => by
    rw [syncLoad_eq]
    exact h
  trigger := fun _ _ _ h => h
  link := fun _ _ _ h => h
  pending := fun _ _ h => h
  cold := fun _ _ _ => .of_reset rfl
  warm := fun _ _ _ => .of_reset rfl
  completion := fun _ _ h => h.completeReset _
  endLead := fun s l => (endLead_frame l s).positionsInv
  endGap := fun s l => (endGap_frame l s).positionsInv
  endPulse := fun s l => (endPulse_frame l s).positionsInv
  outputConfig := fun s p => (carryOutputConfig_frame p s).positionsInv
  outputAction := fun s p => (carryOutputAction_frame p s).positionsInv
  outputStop := fun s l => (carryOutputStop_frame l s).positionsInv
  enterSafe := fun s => (enterSafe_onLines s).positionsInv
  leaveSafe := fun s => (leaveSafe_frame s).positionsInv
  enables := fun _ _ h => h
  ackTimeout := fun s => (ackTimeout_frame s).positionsInv
  notice := fun _ s ack payload _ h => by
    obtain ⟨_, _, he⟩ := judgeNotice_frame ack payload s
    rw [he]
    exact h
  endSession := fun s => (endSession_frame s).positionsInv
  handover := fun s _ _ => (handover_frame s).positionsInv
  attach := fun s p => (carryAttach_frame p s).positionsInv
  deliveryConfig := fun s _ p _ _ => (carryDeliveryConfig_frame p s).positionsInv
  fetch := fun s _ k _ _ => (carryFetch_frame k s).positionsInv
  stopAll := fun _ h => h
  axisConfig := fun _ _ _ hr h => h.carryAxisConfig hr
  setPosition := fun _ _ _ hr h => h.carrySetPosition hr
  home := fun _ p h => h.carryHome p
  homeCancel := fun _ n h => h.carryHomeCancel n
  stageAdd := fun s _ p _ => (carryStageAdd_frame p s).positionsInv
  stageRemove := fun s p => (carryStageRemove_frame p s).positionsInv
  stageClear := fun s n => (carryStageClear_frame n s).positionsInv
  stageCopy := fun s n => (carryStageCopy_frame n s).positionsInv
  schedConfig := fun s p => (carrySchedConfig_frame p s).positionsInv
  cancel := fun s n => (cancelCommit_frame n s).positionsInv
  start := fun s n => (carrySchedStart_frame n s).positionsInv
  commit := fun _ s p => (carryCommit_frame p s).positionsInv

end

/-! ### The lines -/

section
variable {n : AxisId} {s t : State}

theorem OnSchedule.wiresInv (ht : OnSchedule n s t) (h : WiresInv s) : WiresInv t := by
  obtain ⟨_, _, _, _, rfl⟩ := ht
  exact h

theorem RoutesChange.wiresInv (ht : RoutesChange s t) (h : WiresInv s) : WiresInv t := by
  obtain ⟨_, _, _, _, _, _, rfl⟩ := ht
  exact h

theorem OnLines.wiresInv (ht : OnLines s t) (h : WiresInv s) : WiresInv t := by
  obtain ⟨_, _, _, _, _, rfl⟩ := ht
  exact h

theorem OnLink.wiresInv (ht : OnLink s t) (h : WiresInv s) : WiresInv t := by
  obtain ⟨_, _, _, rfl⟩ := ht
  exact h

theorem WiresInv.of_eq (h : WiresInv s) (hw : t.wires = s.wires) : WiresInv t := by
  unfold WiresInv
  rwa [hw]

theorem WiresInv.axisRecord (h : WiresInv s) (reason : AxisReason) : WiresInv (axisRecord n reason s) := by
  rw [axisRecord_eq]
  exact h

theorem WiresInv.departIf (h : WiresInv s) (was : RefState) : WiresInv (departIf was n s) := by
  unfold Machine.departIf
  split
  · exact (departure_frame n s).wiresInv h
  · exact h

theorem WiresInv.jump (h : WiresInv s) : WiresInv (jump n s) := (jump_frame n s).wiresInv h

/-- Forgetting the departures that a filter has dropped leaves the rest in order (R24). -/
theorem WiresInv.forgetReturned (h : WiresInv s) : WiresInv (s.forgetReturned n) := by
  obtain ⟨ha, hb, hi⟩ := h.1 n
  exact Wires.Rising.setAxis h n (dropReturned_rising ha) (dropReturned_rising hb) (dropReturned_rising hi)

theorem WiresInv.carryAxisConfig (h : WiresInv s) (p : AxisId × AxisConfig × AxisMode) :
    WiresInv (carryAxisConfig p s).1 := by
  unfold Machine.carryAxisConfig
  simp only
  split
  · refine WiresInv.jump (WiresInv.departIf (WiresInv.axisRecord ?_ _) _)
    exact (h.forgetReturned (n := p.1)).of_eq rfl
  · exact h

theorem WiresInv.carrySetPosition (h : WiresInv s) (p : AxisId × Position) : WiresInv (carrySetPosition p s).1 := by
  unfold Machine.carrySetPosition
  refine WiresInv.jump (WiresInv.axisRecord ?_ _)
  exact h

theorem WiresInv.carryHome (h : WiresInv s) (p : AxisId × HomingParams) : WiresInv (carryHome p s).1 := by
  unfold Machine.carryHome
  refine WiresInv.departIf ?_ _
  exact h

theorem WiresInv.carryHomeCancel (h : WiresInv s) (n : AxisId) : WiresInv (carryHomeCancel n s).1 := by
  unfold Machine.carryHomeCancel
  split
  · refine WiresInv.axisRecord ?_ _
    exact h
  all_goals exact h

theorem WiresInv.keptByAxes : KeptByAxes (fun _ => True) WiresInv where
  routes := fun _ _ h => h
  record := fun _ _ h => h
  output := fun s l act h => by
    obtain ⟨_, _, _, he⟩ := issueAction_frame l act s
    rw [he]
    exact h
  schedule := fun s n act _ => (takeSchedAct_frame n act s).wiresInv
  axis := fun _ _ _ _ h => h
  advance := fun _ _ h => h
  wires := fun _ _ hw h => hw h
  finish := fun _ _ _ h => h
  rearm := fun _ _ h => h
  reach := fun s n => (reachCommit_frame n s).wiresInv
  complete := fun s n => (completeIfEmpty_frame n s).wiresInv
  depart := fun s n => (departure_frame n s).wiresInv
  jump := fun s n => (jump_frame n s).wiresInv

theorem WiresInv.keptByCommand (c : Instr) : KeptByCommand c WiresInv where
  toKeptByRoutes := WiresInv.keptByAxes.toKeptByRoutes
  toKeptByEvents := WiresInv.keptByAxes.events fun _ _ _ h => h
  advance := fun _ _ h => h
  wires := fun _ _ hw h => hw h
  timebase := fun _ _ _ h => h
  timeSet := fun _ _ _ h => h
  syncLoad := fun _ s arm h => by
    rw [syncLoad_eq]
    exact h
  trigger := fun _ _ _ h => h
  link := fun _ _ _ h => h
  pending := fun _ _ h => h
  cold := fun _ _ h => h
  warm := fun _ _ h => h
  completion := fun s _ h => Wires.Rising.after h s.now
  endLead := fun s l => (endLead_frame l s).wiresInv
  endGap := fun s l => (endGap_frame l s).wiresInv
  endPulse := fun s l => (endPulse_frame l s).wiresInv
  outputConfig := fun s p => (carryOutputConfig_frame p s).wiresInv
  outputAction := fun s p => (carryOutputAction_frame p s).wiresInv
  outputStop := fun s l => (carryOutputStop_frame l s).wiresInv
  enterSafe := fun s => (enterSafe_onLines s).wiresInv
  leaveSafe := fun s => (leaveSafe_frame s).wiresInv
  enables := fun _ _ h => h
  ackTimeout := fun s => (ackTimeout_frame s).wiresInv
  notice := fun _ s ack payload _ h => by
    obtain ⟨_, _, he⟩ := judgeNotice_frame ack payload s
    rw [he]
    exact h
  endSession := fun s => (endSession_frame s).wiresInv
  handover := fun s _ _ => (handover_frame s).wiresInv
  attach := fun s p => (carryAttach_frame p s).wiresInv
  deliveryConfig := fun s _ p _ _ => (carryDeliveryConfig_frame p s).wiresInv
  fetch := fun s _ k _ _ => (carryFetch_frame k s).wiresInv
  stopAll := fun _ h => h
  axisConfig := fun _ _ p _ h => h.carryAxisConfig p
  setPosition := fun _ _ p _ h => h.carrySetPosition p
  home := fun _ p h => h.carryHome p
  homeCancel := fun _ n h => h.carryHomeCancel n
  stageAdd := fun s _ p _ => (carryStageAdd_frame p s).wiresInv
  stageRemove := fun s p => (carryStageRemove_frame p s).wiresInv
  stageClear := fun s n => (carryStageClear_frame n s).wiresInv
  stageCopy := fun s n => (carryStageCopy_frame n s).wiresInv
  schedConfig := fun s p => (carrySchedConfig_frame p s).wiresInv
  cancel := fun s n => (cancelCommit_frame n s).wiresInv
  start := fun s n => (carrySchedStart_frame n s).wiresInv
  commit := fun _ s p => (carryCommit_frame p s).wiresInv

end

end Sys2Proof.Machine

namespace Sys2Proof.Proofs

open Sys2Proof.Machine

/-- Settles O55: every operation keeps the positions in range, and every filter leaves the later changes in order. -/
theorem positionsStayInRangeAndLineChangesInOrder : Obligations.PositionsStayInRangeAndLineChangesInOrder :=
  ⟨fun s t h he => step_keeps PositionsInv.keptByCommand s t h he,
    fun s t h he => step_keeps WiresInv.keptByCommand s t h he⟩

end Sys2Proof.Proofs
end

section
/-! SUPPORT and the settling of O54 and O58. What a request leaves of the intake, the reply queue and the reply cache: it
gives up its place among the waiting ones for a reply at the tail, and the cache takes that reply as its most recent
entry while the link is ATTACHED. -/

namespace Sys2Proof.Machine

section
variable {s t : State} {r : Request} {e : CacheEntry} {rest : List Request}

/-! ### What an answer leaves of the link -/

theorem storeReply_replies (reply : Reply) : (storeReply r reply s).link.replies = s.link.replies := by
  unfold storeReply
  split <;> rfl

theorem storeReply_waiting (reply : Reply) : (storeReply r reply s).link.waiting = s.link.waiting := by
  unfold storeReply
  split <;> rfl

theorem storeReply_session (reply : Reply) : (storeReply r reply s).link.session = s.link.session := by
  unfold storeReply
  split <;> rfl

theorem answerRequest_replies (result : State × Answer) : (answerRequest r result).link.replies =
    result.1.link.replies ++ [⟨result.2.reply r, result.2.closing⟩] := storeReply_replies _

theorem answerRequest_waiting (result : State × Answer) :
    (answerRequest r result).link.waiting = result.1.link.waiting := storeReply_waiting _

theorem answerRequest_session (result : State × Answer) :
    (answerRequest r result).link.session = result.1.link.session := storeReply_session _

/-- While the link is ATTACHED the cache may take the reply (R184). -/
theorem answerRequest_cache (result : State × Answer) : (answerRequest r result).link.cache = result.1.link.cache ∨
    (result.1.link.session ≠ none ∧ ∃ x, (answerRequest r result).link.cache = remember x result.1.link.cache) := by
  unfold answerRequest storeReply
  split
  · rename_i h
    rw [Bool.and_eq_true, Option.isSome_iff_ne_none] at h
    exact .inr ⟨h.1, _, rfl⟩
  · exact .inl rfl

theorem answerRetry_replies : ∃ q, (answerRetry r e s).link.replies = s.link.replies ++ [q] := by
  unfold answerRetry
  split <;> exact ⟨_, rfl⟩

theorem answerRetry_waiting : (answerRetry r e s).link.waiting = s.link.waiting := by
  unfold answerRetry
  split <;> rfl

theorem answerRetry_session : (answerRetry r e s).link.session = s.link.session := by
  unfold answerRetry
  split <;> rfl

theorem answerRetry_cache : (answerRetry r e s).link.cache = s.link.cache ∨
    (answerRetry r e s).link.cache = remember e s.link.cache := by
  unfold answerRetry
  split
  · exact .inr rfl
  · exact .inl rfl

/-! ### The reply queue -/

/-- Each command but a reset leaves the replies, adds one at the tail, or takes the oldest (R173, R176). -/
theorem repliesKept (c : Instr) (hcold : c ≠ .coldReset) (hwarm : c ≠ .txFrameComplete) (rs : List QueuedReply) :
    LinkKept c (fun t => t.link.replies = rs) fun t => t.link.replies = rs ∨ (∃ q, t.link.replies = rs ++ [q]) ∨
      (c = .txTakeFrame ∧ ∃ q, rs = q :: t.link.replies) where
  imp := fun _ h => .inl h
  ofQ := fun h ⟨_, _, hr, _⟩ => by rwa [hr]
  endSessionQ := fun _ h => h
  of := fun h ⟨_, _, hr, _⟩ => hr.trans h
  intake := fun s r h => by
    unfold enterIntake
    split <;> exact h
  retry := fun s r e rest _ _ h => by
    obtain ⟨q, hq⟩ := answerRetry_replies (s := s.took rest) (r := r) (e := e)
    exact .inr (.inl ⟨q, hq.trans (congrArg (· ++ [q]) h)⟩)
  answer := fun s r rest u a _ _ h ⟨_, hu, _⟩ => .inr (.inl ⟨_, by rw [answerRequest_replies, hu]; exact congrArg (· ++ [_]) h⟩)
  endSession := fun _ h => h
  pop := fun hc s q rest hq h => .inr (.inr ⟨hc, q, by rw [← h, hq]; rfl⟩)
  cold := fun hc => absurd hc hcold
  warm := fun hc => absurd hc hwarm

/-! ### The intake -/

/-- A request taken gives its place in the intake to its reply (R173). -/
theorem IntakeInv.of_answer (h : IntakeInv s) (hw : s.link.waiting = r :: rest) {q : QueuedReply}
    (htw : t.link.waiting = rest) (htr : t.link.replies = s.link.replies ++ [q]) : IntakeInv t := by
  unfold IntakeInv at h ⊢
  rw [hw, List.length_cons] at h
  rw [htw, htr, List.length_append, List.length_singleton]
  omega

theorem intakeKept (c : Instr) : LinkKept c IntakeInv IntakeInv where
  imp := fun _ h => h
  ofQ := fun h ⟨_, hw, hr, _⟩ => by rwa [IntakeInv, hw, hr]
  endSessionQ := fun s h => le_trans (Nat.add_le_add_right (Nat.zero_le _) _) h
  of := fun h ⟨_, hw, hr, _⟩ => by rwa [IntakeInv, hw, hr]
  intake := fun s r h => by
    unfold enterIntake
    split
    · rename_i room
      unfold Link.intake Config.intakeCapacity at room
      unfold IntakeInv State.setLink
      simp only [List.length_append, List.length_singleton]
      omega
    · exact h
  retry := fun s r e rest hw _ h => by
    obtain ⟨q, hq⟩ := answerRetry_replies (s := s.took rest) (r := r) (e := e)
    exact h.of_answer hw answerRetry_waiting hq
  answer := fun s r rest u a hw _ h ⟨huw, hur, _⟩ => h.of_answer hw ((answerRequest_waiting _).trans huw)
    ((answerRequest_replies _).trans (congrArg (· ++ _) hur))
  endSession := fun s h => le_trans (Nat.add_le_add_right (Nat.zero_le _) _) h
  pop := fun _ s q rest hq h => by
    unfold IntakeInv at h ⊢
    rw [hq, List.length_cons] at h
    exact Nat.le_of_succ_le h
  cold := fun _ _ _ => Nat.zero_le 4
  warm := fun _ _ _ => Nat.zero_le 4

/-! ### The reply cache -/

theorem length_remember_le (e : CacheEntry) (cache : List CacheEntry) : (remember e cache).length ≤ 8 :=
  List.length_take_le _ _

/-- A remembered entry replaces the one with its tag, so that the tags stay distinct (R184). -/
theorem remember_tags (e : CacheEntry) {cache : List CacheEntry} (h : (cache.map CacheEntry.tag).Nodup) :
    ((remember e cache).map CacheEntry.tag).Nodup := by
  have whole : ((e :: cache.filter fun x => x.tag ≠ e.tag).map CacheEntry.tag).Nodup := by
    rw [List.map_cons, List.nodup_cons]
    refine ⟨by simp, h.sublist (List.filter_sublist.map _)⟩
  exact whole.sublist ((List.take_sublist _ _).map _)

theorem CacheInv.of_remember (h : (s.link.cache.map CacheEntry.tag).Nodup) (ht : t.link.session ≠ none)
    (hc : t.link.cache = remember e s.link.cache) : CacheInv t :=
  ⟨hc ▸ length_remember_le _ _, hc ▸ remember_tags e h, fun hs => absurd hs ht⟩

theorem CacheInv.of_empty (hc : t.link.cache = []) : CacheInv t := by
  refine ⟨?_, ?_, fun _ => hc⟩ <;> simp [hc]

theorem CacheInv.of_same (h : CacheInv s) (hs : t.link.session = s.link.session) (hc : t.link.cache = s.link.cache) :
    CacheInv t := by
  unfold CacheInv
  rwa [hs, hc]

/-- What is found in the cache is there, so the link is ATTACHED (R182). -/
theorem CacheInv.attached_of_found (h : CacheInv s) (he : cachedFor r s.link.cache = some e) : s.link.session ≠ none := by
  intro hs
  rw [h.2.2 hs] at he
  unfold cachedFor at he
  split at he <;> cases he

theorem CacheInv.answer {u : State} (h : CacheInv u) (a : Answer) : CacheInv (answerRequest r (u, a)) := by
  rcases answerRequest_cache (r := r) (u, a) with hc | ⟨hs, x, hc⟩
  · exact h.of_same (answerRequest_session _) hc
  · exact CacheInv.of_remember h.2.1 (by rwa [answerRequest_session]) hc

theorem cacheKept (c : Instr) : LinkKept c CacheInv CacheInv where
  imp := fun _ h => h
  ofQ := fun h ⟨hs, _, _, hc⟩ => h.of_same hs hc
  endSessionQ := fun _ _ => .of_empty rfl
  of := fun h ⟨hs, _, _, hc⟩ => h.of_same hs hc
  intake := fun s r h => by
    unfold enterIntake
    split <;> exact h
  retry := fun s r e rest _ he h => by
    rcases answerRetry_cache (s := s.took rest) (r := r) (e := e) with hc | hc
    · exact h.of_same answerRetry_session hc
    · exact CacheInv.of_remember h.2.1 (by rw [answerRetry_session]; exact h.attached_of_found he) hc
  answer := fun s r rest u a _ _ h ⟨_, _, hu⟩ => by
    refine CacheInv.answer ?_ a
    rcases hu with ⟨hs, hc⟩ | ⟨hs, hc⟩
    · exact h.of_same hs hc
    · split at hc
      · exact .of_empty hc
      · refine ⟨hc ▸ h.1, hc ▸ h.2.1, fun hn => absurd hn hs⟩
  endSession := fun _ _ => .of_empty rfl
  pop := fun _ _ _ _ _ h => h
  cold := fun _ _ _ => .of_empty rfl
  warm := fun _ _ _ => .of_empty rfl

end

end Sys2Proof.Machine

namespace Sys2Proof.Proofs

open Sys2Proof.Machine

/-- Settles O54: every operation on the link keeps the bounds of the cache and of the intake. -/
theorem cacheAndIntakeStayBounded : Obligations.CacheAndIntakeStayBounded :=
  ⟨fun s t h he => step_link cacheKept s t h he, fun s t h he => step_link intakeKept s t h he⟩

/-- Settles O58: a request is answered at the tail of the reply queue, and the transmitter takes its head. -/
theorem repliesLeaveInAcceptanceOrder : Obligations.RepliesLeaveInAcceptanceOrder :=
  fun s t c he hcold hwarm => (repliesKept c hcold hwarm s.link.replies).exec s t rfl he

end Sys2Proof.Proofs
end

section
/-! SUPPORT and the settling of O57. Records are handed over at the newest end, numbered from the next sequence number on,
by every command; the last byte of a frame alone removes any, where it ends a valid ACK, and then nothing but the GAP
record of the pending losses is added. -/

namespace Sys2Proof.Machine

/-! ### Records handed over -/

/-- `q'` holds the records of `q` and newer ones, numbered from the next sequence number of `q` on. -/
def Extends (q q' : RecordQueue) : Prop :=
  ∃ new : List Record, q'.records = q.records ++ new ∧
    (∀ (i : Nat) (h : i < new.length), new[i].seq = q.next + BitVec.ofNat 32 i) ∧
    q'.next = q.next + BitVec.ofNat 32 new.length

theorem Extends.refl (q : RecordQueue) : Extends q q := ⟨[], by simp, nofun, by simp⟩

theorem Extends.receive {q q' : RecordQueue} (h : Extends q q') (i : Item) : Extends q (q'.receive i) := by
  obtain ⟨new, hr, hs, hn⟩ := h
  unfold RecordQueue.receive
  split
  · refine ⟨new ++ [⟨q'.next, i⟩], by simp [RecordQueue.place, hr], fun j hj => ?_, ?_⟩
    · rw [List.length_append, List.length_singleton] at hj
      by_cases hjn : j < new.length
      · rw [List.getElem_append_left hjn, hs j hjn]
      · have : j = new.length := by omega
        subst this
        simp [hn]
    · rw [List.length_append, List.length_singleton, BitVec.ofNat_add, ← BitVec.add_assoc, ← hn]
      rfl
  · exact ⟨new, hr, hs, hn⟩

theorem Extends.kept {c : Instr} (hframe : ¬∃ b, c = .frameReceived b ∨ c = .characterReceived b)
    (hcold : c ≠ .coldReset) (hwarm : c ≠ .txFrameComplete) (q : RecordQueue) : QueueKept c (Extends q) where
  receive := fun _ i h => h.receive i
  enables := fun _ _ h => h
  remove := fun hc => absurd hc hframe
  cold := fun hc => absurd hc hcold
  warm := fun hc => absurd hc hwarm

/-! ### Records removed -/

/-- The GAP record that a removal adds, if losses are pending (R142). -/
def RecordQueue.gapRecords (q : RecordQueue) (time : Ticks) : List Record :=
  if q.pendingLoss = 0 then [] else [⟨q.next, ⟨.gap q.pendingLoss, time, []⟩⟩]

/-- The queue less its k oldest records, with the GAP record when losses are pending (R141, R142). -/
theorem RecordQueue.remove_records (q : RecordQueue) (k : Nat) (time : Ticks) :
    (q.remove k time).records = q.records.drop k ++ q.gapRecords time := by
  unfold RecordQueue.remove RecordQueue.gapRecords
  simp only
  split <;> simp [RecordQueue.place]

theorem RecordQueue.remove_next (q : RecordQueue) (k : Nat) (time : Ticks) :
    (q.remove k time).next = q.next + BitVec.ofNat 32 (q.gapRecords time).length := by
  unfold RecordQueue.remove RecordQueue.gapRecords
  simp only
  split <;> simp [RecordQueue.place]

/-- The last byte of a frame leaves the queue, or removes some of the oldest records (R141, R155). -/
def Trimmed (q q' : RecordQueue) : Prop := q' = q ∨ ∃ k time, q' = q.remove k time

theorem judgeNotice_trims (ack : Bool) (payload : List Byte) (s : State) :
    Trimmed s.queue (judgeNotice ack payload s).queue := by
  unfold judgeNotice
  split
  · split
    · exact .inr ⟨_, _, rfl⟩
    · exact .inl rfl
  · exact .inl rfl

theorem restartKeepalive_queue (s : State) : (restartKeepalive s).queue = s.queue := by
  unfold restartKeepalive
  split <;> rfl

theorem enterIntake_queue (r : Request) (s : State) : (enterIntake r s).queue = s.queue := by
  unfold enterIntake
  split <;> rfl

theorem takeNotice_trims (ack : Bool) (payload : List Byte) (s : State) :
    Trimmed s.queue (takeNotice ack payload s).queue := by
  unfold takeNotice
  split
  · exact judgeNotice_trims ack payload s
  · exact .inl rfl

theorem acceptFrame_trims (len : Byte) (body : List Byte) (s : State) :
    Trimmed s.queue (acceptFrame len body s).queue := by
  have alive : (countAccepted (restartKeepalive s)).queue = s.queue := restartKeepalive_queue s
  unfold acceptFrame
  split
  · simp only
    split
    · exact .inl ((enterIntake_queue _ _).trans alive)
    · split
      · exact alive ▸ takeNotice_trims _ _ _
      · split
        · exact alive ▸ takeNotice_trims _ _ _
        · exact .inl (restartKeepalive_queue s)
    · exact .inl (restartKeepalive_queue s)
  · exact .inl rfl

theorem receiveCharacter_trims (b : Byte) (s : State) : Trimmed s.queue (receiveCharacter b s).queue := by
  unfold receiveCharacter
  split
  · split <;> exact .inl rfl
  · split <;> exact .inl rfl
  · split <;> exact .inl rfl
  · exact .inl rfl
  · unfold checkFrame
    split
    · exact acceptFrame_trims _ _ _
    · exact .inl rfl

theorem whenRunning_trims {f : State → State} (hf : ∀ s, Trimmed s.queue (f s).queue) (s : State) :
    Trimmed s.queue (whenRunning f s).queue := by
  unfold whenRunning
  split
  · exact hf s
  · exact .inl rfl
  · exact .inl rfl

/-- The two commands of a frame's last byte. -/
theorem exec_trims {c : Instr} {s t : State} (hc : ∃ b, c = .frameReceived b ∨ c = .characterReceived b)
    (he : exec c s = .next t) : Trimmed s.queue t.queue := by
  obtain ⟨b, rfl | rfl⟩ := hc
  · cases he
    refine whenRunning_trims (fun s => ?_) s
    split
    · exact receiveCharacter_trims b s
    · exact .inl rfl
  · cases he
    exact whenRunning_trims (receiveCharacter_trims b) s

/-- A frame that is no RESTART reply leaves the queue as it completes (R167, R177). -/
theorem frameComplete_queue {s : State} (h : ∀ f, s.link.transmitter ≠ .sending f .warmReset) :
    (frameComplete s).queue = s.queue := by
  unfold frameComplete
  split
  · rfl
  · rename_i f closing hs
    cases closing with
    | warmReset => exact absurd hs (h f)
    | nothing => rfl
    | sessionEnd => rfl
    | rate b => rfl

/-- A RESTART reply has left: the warm reset empties the queue (R189). -/
theorem frameComplete_warm {s : State} {f : List Byte} (h : s.link.transmitter = .sending f .warmReset) :
    frameComplete s = beginWarmReset (s.setLink { s.link with transmitter := .free }) := by
  unfold frameComplete
  rw [h]

/-- What O57 says of a command that is no reset: some of the oldest records have left, and new ones stand behind. -/
def LeavesOldest (frame : Prop) (q q' : RecordQueue) : Prop :=
  ∃ k new, k ≤ q.records.length ∧ q'.records = q.records.drop k ++ new ∧
    (∀ (i : Nat) (h : i < new.length), new[i].seq = q.next + BitVec.ofNat 32 i) ∧
    q'.next = q.next + BitVec.ofNat 32 new.length ∧
    (k ≠ 0 → frame ∧
      (new = [] ∨ ∃ time, new = [⟨q.next, ⟨.gap q.pendingLoss, time, []⟩⟩] ∧ q.pendingLoss ≠ 0))

theorem Extends.leavesOldest {frame : Prop} {q q' : RecordQueue} (h : Extends q q') : LeavesOldest frame q q' := by
  obtain ⟨new, hr, hs, hn⟩ := h
  exact ⟨0, new, Nat.zero_le _, hr, hs, hn, fun h => absurd rfl h⟩

theorem Trimmed.leavesOldest {frame : Prop} {q q' : RecordQueue} (hf : frame) (h : Trimmed q q') :
    LeavesOldest frame q q' := by
  rcases h with rfl | ⟨k, time, rfl⟩
  · exact (Extends.refl q').leavesOldest
  · refine ⟨min k q.records.length, q.gapRecords time, Nat.min_le_right _ _, ?_, fun i hi => ?_,
      q.remove_next k time, fun _ => ⟨hf, ?_⟩⟩
    · rw [RecordQueue.remove_records]
      rcases le_total k q.records.length with hk | hk
      · rw [min_eq_left hk]
      · rw [min_eq_right hk, List.drop_length, List.drop_eq_nil_of_le hk]
    · revert hi
      unfold RecordQueue.gapRecords
      split
      · exact fun hi => absurd hi (Nat.not_lt_zero i)
      · intro hi
        have : i = 0 := by simpa using hi
        subst this
        simp
    · unfold RecordQueue.gapRecords
      split
      · exact .inl rfl
      · exact .inr ⟨time, rfl, ‹_›⟩

end Sys2Proof.Machine

namespace Sys2Proof.Proofs

open Sys2Proof.Machine

/-- Settles O57: the last byte of a frame trims the queue, every other command but a reset extends it, and the resets
empty it. -/
theorem recordsLeaveOnlyFromTheOldestEnd : Obligations.RecordsLeaveOnlyFromTheOldestEnd := by
  intro s t c he _
  refine ⟨fun hcold hwarm => ?_, ?_, ?_⟩
  · show LeavesOldest (∃ b, c = .frameReceived b ∨ c = .characterReceived b) s.queue t.queue
    by_cases hframe : ∃ b, c = .frameReceived b ∨ c = .characterReceived b
    · exact (exec_trims hframe he).leavesOldest hframe
    · refine Extends.leavesOldest ?_
      by_cases htx : c = .txFrameComplete
      · subst htx
        cases he
        unfold whenRunning
        split
        · rw [frameComplete_queue fun f => hwarm f rfl]
          exact .refl _
        · exact .refl _
        · exact .refl _
      · exact (Extends.kept hframe hcold htx s.queue).keptByCommand.exec s t (.refl _) he
  · rintro rfl
    cases he
    rfl
  · rintro f rfl hp hs
    cases he
    unfold whenRunning
    rw [hp]
    simp only [frameComplete_warm hs]
    rfl

end Sys2Proof.Proofs
end

section
/-! SUPPORT and the settling of O53. The pointers of the Delivery Controller are judged by their distances from the oldest
record (R148). A new record moves none of them, since it leaves the oldest one; a removal of k records brings every
pointer at distance k or more nearer by k. -/

namespace Sys2Proof.Machine

/-! ### Distances -/

section
variable {q : RecordQueue} {x : Word32}

@[simp] theorem RecordQueue.distance_oldest (q : RecordQueue) : q.distance q.oldest = 0 := by
  simp [RecordQueue.distance]

/-- The next sequence number lies the occupancy above the oldest (R137). -/
theorem QueueInv.distance_next (h : QueueInv q) : q.distance q.next = q.records.length := h.occupancy_eq

theorem RecordQueue.distance_add (q : RecordQueue) {k : Nat} (h : k < 2 ^ 32) :
    q.distance (q.oldest + BitVec.ofNat 32 k) = k := by
  unfold RecordQueue.distance
  rw [add_sub_cancel_left, BitVec.toNat_ofNat]
  exact Nat.mod_eq_of_lt h

/-- The sequence number after one below the top of the range lies one further. -/
theorem RecordQueue.distance_succ {k : Nat} (h : q.distance x < k) (hk : k < 2 ^ 32) :
    q.distance (x + 1#32) = q.distance x + 1 := by
  unfold RecordQueue.distance at h ⊢
  generalize q.oldest = o at h ⊢
  bv_omega

/-- A number is the oldest one with its distance added. -/
theorem RecordQueue.eq_oldest_add (q : RecordQueue) (x : Word32) : x = q.oldest + BitVec.ofNat 32 (q.distance x) := by
  unfold RecordQueue.distance
  rw [BitVec.ofNat_toNat, BitVec.setWidth_eq, add_sub_cancel]

theorem RecordQueue.distance_congr {q q' : RecordQueue} (h : q'.oldest = q.oldest) (x : Word32) :
    q'.distance x = q.distance x := by
  unfold RecordQueue.distance
  rw [h]

/-- Admission leaves the oldest sequence number: in an empty queue it is the number that the record takes. -/
@[simp] theorem RecordQueue.place_oldest (q : RecordQueue) (i : Item) : (q.place i).oldest = q.oldest := by
  unfold RecordQueue.oldest RecordQueue.place
  cases hr : q.records <;> simp

@[simp] theorem RecordQueue.receive_oldest (q : RecordQueue) (i : Item) : (q.receive i).oldest = q.oldest := by
  unfold RecordQueue.receive
  split
  · exact q.place_oldest i
  · rfl

theorem Grown.oldest {q q' : RecordQueue} (h : Grown q q') : q'.oldest = q.oldest :=
  h.keeps (fun x => x.oldest = q.oldest) (fun x i hx => (x.receive_oldest i).trans hx) rfl

/-- Records handed over leave the occupancy or raise it. -/
theorem Grown.length_le {q q' : RecordQueue} (h : Grown q q') : q.records.length ≤ q'.records.length := by
  obtain ⟨new, hn⟩ := h.records
  rw [hn, List.length_append]
  exact Nat.le_add_right _ _

theorem RecordQueue.remove_oldest_of_loss (q : RecordQueue) (k : Nat) (time : Ticks) :
    (q.remove k time).oldest = ({ q with records := q.records.drop k } : RecordQueue).oldest := by
  unfold RecordQueue.remove
  simp only
  split
  · rfl
  · exact RecordQueue.place_oldest _ _

/-- The removal of k records brings the oldest sequence number on by k (R141). -/
theorem QueueInv.remove_oldest (h : QueueInv q) {k : Nat} (hk : k ≤ q.records.length) (time : Ticks) :
    (q.remove k time).oldest = q.oldest + BitVec.ofNat 32 k := by
  have oldest := h.oldest_eq
  have kept : (q.remove k time).oldest = q.next - BitVec.ofNat 32 (q.records.length - k) := by
    rw [q.remove_oldest_of_loss]
    unfold RecordQueue.oldest
    simp only
    split
    · rename_i hd
      have : q.records.length ≤ k := List.drop_eq_nil_iff.mp hd
      rw [show q.records.length - k = 0 by omega, BitVec.sub_zero]
    · rename_i r rs hd
      have hlt : k < q.records.length := by
        by_contra hge
        rw [List.drop_eq_nil_of_le (not_lt.mp hge)] at hd
        cases hd
      rw [← h.2.1 k hlt]
      have : q.records[k] = r := by
        have := List.getElem_cons_drop (h := hlt)
        rw [hd] at this
        exact (List.cons.inj this).1
      rw [this]
  have split : q.records.length = (q.records.length - k) + k := by omega
  rw [kept, oldest, split, BitVec.ofNat_add, Nat.add_sub_cancel]
  generalize BitVec.ofNat 32 (q.records.length - k) = a
  generalize BitVec.ofNat 32 k = b
  bv_omega

/-- A removal of k records brings a pointer at distance k or more nearer by k. -/
theorem QueueInv.remove_distance (h : QueueInv q) {k : Nat} (hk : k ≤ q.records.length) (time : Ticks)
    (hx : k ≤ q.distance x) : (q.remove k time).distance x = q.distance x - k := by
  have bound := h.1
  unfold RecordQueue.distance at hx ⊢
  rw [h.remove_oldest hk]
  have small : (BitVec.ofNat 32 k).toNat = k := Nat.mod_eq_of_lt (by omega)
  generalize hb : BitVec.ofNat 32 k = b at small ⊢
  subst small
  generalize q.oldest = o at hx ⊢
  bv_omega

theorem RecordQueue.distance_further (q : RecordQueue) (x y : Word32) :
    q.distance (q.further x y) = max (q.distance x) (q.distance y) := by
  unfold RecordQueue.further
  split <;> omega

end

/-! ### The pointers in order -/

/-- R148, R152 and R154 for a queue, a delivery state and a session. -/
structure PointersOk (q : RecordQueue) (d : Delivery) (session : Option Session) : Prop where
  sendHigh : q.distance d.sendPoint ≤ q.distance d.highMark
  highNext : q.distance d.highMark ≤ q.distance q.next
  highWindow : q.distance d.highMark ≤ d.window
  detached : session = none → q.distance d.sendPoint = 0
  timer : d.mode = .poll ∨ d.stalled = true ∨ session = none → d.ackTimer = none

theorem deliveryInv_iff {s : State} : DeliveryInv s ↔ PointersOk s.queue s.delivery s.link.session :=
  ⟨fun ⟨h1, h2, h3, h4, h5⟩ => ⟨h1, h2, h3, h4, h5⟩, fun ⟨h1, h2, h3, h4, h5⟩ => ⟨h1, h2, h3, h4, h5⟩⟩

section
variable {q q' : RecordQueue} {d d' : Delivery} {session : Option Session} {x : Word32}

/-- New records leave the pointers where they are (R138). -/
theorem PointersOk.grown (h : PointersOk q d session) (hq : QueueInv q) (hg : Grown q q') : PointersOk q' d session := by
  have same : ∀ x, q'.distance x = q.distance x := fun x => RecordQueue.distance_congr hg.oldest x
  have hq' : QueueInv q' := hg.keeps QueueInv (fun _ i h => h.receive i) hq
  refine ⟨?_, ?_, ?_, fun hs => ?_, h.timer⟩
  · rw [same, same]
    exact h.sendHigh
  · rw [same, hq'.distance_next]
    exact le_trans (hq.distance_next ▸ h.highNext) hg.length_le
  · rw [same]
    exact h.highWindow
  · rw [same]
    exact h.detached hs

/-- Every pointer at the oldest record, the timer stopped (R162). -/
theorem PointersOk.of_oldest (hs : d.sendPoint = q.oldest) (hh : d.highMark = q.oldest) (ht : d.ackTimer = none) :
    PointersOk q d session := by
  refine ⟨?_, ?_, ?_, fun _ => ?_, fun _ => ht⟩ <;> simp [hs, hh]

/-- The send point alone falls back to the oldest record, the timer stopped (R153). -/
theorem PointersOk.fall_back (h : PointersOk q d session) (hs : d'.sendPoint = q.oldest) (hh : d'.highMark = d.highMark)
    (hw : d'.window = d.window) (ht : d'.ackTimer = none) : PointersOk q d' session :=
  ⟨by simp [hs], hh ▸ h.highNext, hh ▸ hw ▸ h.highWindow, fun _ => by simp [hs], fun _ => ht⟩

/-- DELIVERY_CONFIG limits the high mark to the new window (R161). -/
theorem PointersOk.configure (h : PointersOk q d session) (hw : d'.window ≤ 16)
    (hs : d'.sendPoint = q.oldest)
    (hh : d'.highMark = if d'.window < q.distance d.highMark then q.oldest + BitVec.ofNat 32 d'.window else d.highMark)
    (ht : d'.ackTimer = none) : PointersOk q d' session := by
  have bound : q.distance d'.highMark = min d'.window (q.distance d.highMark) := by
    rw [hh]
    split
    · rw [q.distance_add (by omega)]
      omega
    · omega
  have := h.highNext
  refine ⟨by simp [hs], by omega, by omega, fun _ => by simp [hs], fun _ => ht⟩

/-- The handover of the record at the send point (R150). -/
theorem PointersOk.handover (h : PointersOk q d session) (hq : QueueInv q)
    (hm : d.mode = .stream) (ha : session ≠ none) (hst : d.stalled = false) (hw : q.distance d.sendPoint < d.window)
    (hn : d.sendPoint ≠ q.next) (timer : Option Nat) :
    PointersOk q
      { d with
        ackTimer := timer
        sendPoint := d.sendPoint + 1#32
        highMark := q.further d.highMark (d.sendPoint + 1#32) } session := by
  have bound := hq.1
  have next := hq.distance_next
  have below : q.distance d.sendPoint < q.distance q.next := by
    refine lt_of_le_of_ne (le_trans h.sendHigh h.highNext) fun he => hn ?_
    rw [q.eq_oldest_add d.sendPoint, he, ← q.eq_oldest_add]
  have step : q.distance (d.sendPoint + 1#32) = q.distance d.sendPoint + 1 :=
    RecordQueue.distance_succ (k := 257) (by omega) (by decide)
  have high := h.highNext
  have window := h.highWindow
  refine ⟨?_, ?_, ?_, fun hs => absurd hs ha, ?_⟩
  · rw [RecordQueue.distance_further]
    exact le_max_right _ _
  · rw [RecordQueue.distance_further, step]
    omega
  · rw [RecordQueue.distance_further, step]
    simp only
    omega
  · simp [hm, ha, hst]

/-- A FETCH in POLL mode moves the send point to the last record returned (R159). -/
theorem PointersOk.fetch (h : PointersOk q d session) (hq : QueueInv q) (hm : d.mode = .poll) (ha : session ≠ none)
    {k : Nat} (hw : k ≤ d.window) (hk : k ≤ q.records.length) :
    PointersOk q
      { d with
        sendPoint := q.oldest + BitVec.ofNat 32 k
        highMark := q.further d.highMark (q.oldest + BitVec.ofNat 32 k) } session := by
  have bound := hq.1
  have next := hq.distance_next
  have step : q.distance (q.oldest + BitVec.ofNat 32 k) = k := q.distance_add (by omega)
  have high := h.highNext
  have window := h.highWindow
  refine ⟨?_, ?_, ?_, fun hs => absurd hs ha, fun _ => h.timer (.inl hm)⟩
  · rw [RecordQueue.distance_further]
    exact le_max_right _ _
  · rw [RecordQueue.distance_further, step]
    omega
  · rw [RecordQueue.distance_further, step]
    simp only
    omega

/-- A valid NAK moves the send point below the high mark (R157). -/
theorem PointersOk.nak (h : PointersOk q d session) (ha : session ≠ none) (hx : q.distance x < q.distance d.highMark)
    {timer : Option Nat} (ht : d.mode = .poll → timer = none) :
    PointersOk q { d with sendPoint := x, ackTimer := timer, timeouts := 0, stalled := false } session := by
  refine ⟨hx.le, h.highNext, h.highWindow, fun hs => absurd hs ha, ?_⟩
  rintro (hm | hs | hs)
  · exact ht hm
  · cases hs
  · exact absurd hs ha

/-- A valid ACK removes through its record, and the send point moves past it or stays (R155). -/
theorem PointersOk.ack (h : PointersOk q d session) (hq : QueueInv q) (ha : session ≠ none)
    (hx : q.distance x < q.distance d.highMark) {timer : Option Nat} (ht : d.mode = .poll → timer = none) (time : Ticks) :
    PointersOk (q.remove (q.distance x + 1) time)
      { d with
        sendPoint := if q.distance x < q.distance d.sendPoint then d.sendPoint else x + 1#32
        ackTimer := timer, timeouts := 0, stalled := false } session := by
  have bound := hq.1
  have next := hq.distance_next
  have high := h.highNext
  have window := h.highWindow
  have send := h.sendHigh
  have held : q.distance x + 1 ≤ q.records.length := by omega
  have nearer : ∀ y, q.distance x + 1 ≤ q.distance y →
      (q.remove (q.distance x + 1) time).distance y = q.distance y - (q.distance x + 1) := fun y hy =>
    hq.remove_distance held time hy
  have past : (q.remove (q.distance x + 1) time).distance (x + 1#32) = 0 := by
    have step : q.distance (x + 1#32) = q.distance x + 1 :=
      RecordQueue.distance_succ (k := 257) (by omega) (by decide)
    rw [nearer _ (by omega), step]
    omega
  have hq' : QueueInv (q.remove (q.distance x + 1) time) := hq.remove _ _ (Nat.le_add_left 1 _)
  have next' : q.records.length - (q.distance x + 1) ≤
      (q.remove (q.distance x + 1) time).distance (q.remove (q.distance x + 1) time).next := by
    rw [hq'.distance_next, RecordQueue.remove_records, List.length_append, List.length_drop]
    exact Nat.le_add_right _ _
  refine ⟨?_, ?_, ?_, fun hs => absurd hs ha, ?_⟩
  · simp only
    rw [nearer d.highMark (by omega)]
    split
    · rw [nearer d.sendPoint (by omega)]
      omega
    · rw [past]
      exact Nat.zero_le _
  · simp only
    rw [nearer d.highMark (by omega)]
    omega
  · simp only
    rw [nearer d.highMark (by omega)]
    omega
  · rintro (hm | hs | hs)
    · exact ht hm
    · cases hs
    · exact absurd hs ha

end

/-! ### The commands -/

/-- The numbering of the records and the order of the pointers. -/
def DeliveryOk (s : State) : Prop := QueueInv s.queue ∧ PointersOk s.queue s.delivery s.link.session

/-- `t` holds the delivery state and the link of `s`, and the queue with records handed over. -/
structure Undelivered (s t : State) : Prop where
  queue : Grown s.queue t.queue
  delivery : t.delivery = s.delivery
  link : t.link = s.link

section
variable {n : AxisId} {s t : State}

theorem DeliveryOk.grown (h : DeliveryOk s) (ht : Undelivered s t) : DeliveryOk t := by
  obtain ⟨hg, hd, hl⟩ := ht
  unfold DeliveryOk
  rw [hd, hl]
  exact ⟨hg.keeps QueueInv (fun _ i h => h.receive i) h.1, h.2.grown h.1 hg⟩

theorem RoutesChange.undelivered (h : RoutesChange s t) : Undelivered s t := by
  obtain ⟨_, _, _, _, _, hq, rfl⟩ := h
  exact ⟨hq, rfl, rfl⟩

theorem OnSchedule.undelivered (h : OnSchedule n s t) : Undelivered s t := h.routesChange.undelivered

theorem OnAxis.undelivered (h : OnAxis n s t) : Undelivered s t := by
  obtain ⟨_, _, _, _, _, hq, rfl⟩ := h
  exact ⟨hq, rfl, rfl⟩

theorem OnLines.undelivered (h : OnLines s t) : Undelivered s t := by
  obtain ⟨_, _, _, _, hq, rfl⟩ := h
  exact ⟨hq, rfl, rfl⟩

theorem EventsChange.undelivered (h : EventsChange s t) : Undelivered s t := by
  obtain ⟨_, _, _, _, hr⟩ := h
  obtain ⟨_, _, _, _, _, hq, rfl⟩ := hr
  exact ⟨hq, rfl, rfl⟩

/-- What the events of the axes and inputs can change is no delivery. -/
theorem DeliveryOk.keptByEvents : KeptByEvents DeliveryOk where
  countEvent := fun _ takes s h =>
    h.grown ((EventsChange.kept s).countEvent trivial takes s (.refl s)).undelivered
  quadratureError := fun _ s h => h.grown ((EventsChange.kept s).quadratureError trivial s (.refl s)).undelivered
  indexArrival := fun _ s h => h.grown ((EventsChange.kept s).indexArrival trivial s (.refl s)).undelivered
  decoderChange := fun _ lines s h =>
    h.grown ((EventsChange.kept s).decoderChange trivial lines s (.refl s)).undelivered
  triggerEdge := fun k before after s h => h.grown ((EventsChange.kept s).triggerEdge (fun _ => trivial)
    (fun u _ _ hu => hu.units u.axes _) k before after s (.refl s)).undelivered

theorem DeliveryOk.keptByRoutes : KeptByRoutes none DeliveryOk where
  routes := fun _ _ h => h
  record := fun _ i h => h.grown ⟨(Grown.refl _).receive i, rfl, rfl⟩
  output := fun s l act h => by
    obtain ⟨_, _, hq, he⟩ := issueAction_frame l act s
    exact h.grown (he ▸ ⟨hq, rfl, rfl⟩)
  schedule := fun s n act _ h => h.grown (takeSchedAct_frame n act s).undelivered

/-- The offer stands only while a record above the send point may be delivered (R149). -/
theorem DeliveryOk.handover {r : Record} (h : DeliveryOk s) (ho : offered s = some r) : DeliveryOk (handover s) := by
  have stands : offerStands s = true := by
    unfold offered at ho
    split at ho
    · assumption
    · cases ho
  simp only [offerStands, outstanding, Bool.and_eq_true, decide_eq_true_eq, Bool.not_eq_true',
    Option.isSome_iff_ne_none] at stands
  obtain ⟨⟨⟨⟨mode, session⟩, stalled⟩, window⟩, next⟩ := stands
  exact ⟨h.1, h.2.handover h.1 mode session stalled (of_decide_eq_true window) next _⟩

theorem noticeTimer_poll (left : Nat) (h : s.delivery.mode = .poll) : noticeTimer s left = none := by
  unfold noticeTimer
  rw [h]

/-- A notice while ATTACHED: rejected, a NAK or an ACK (R155 to R157). -/
theorem DeliveryOk.notice (h : DeliveryOk s) (ha : Attached s) (ack : Bool) (payload : List Byte) :
    DeliveryOk (judgeNotice ack payload s) := by
  have session : s.link.session ≠ none := Option.isSome_iff_ne_none.mp ha
  unfold judgeNotice
  split
  · rename_i hv
    have valid := of_decide_eq_true hv.2
    split
    · exact ⟨h.1.remove _ _ (Nat.le_add_left 1 _), h.2.ack h.1 session valid (noticeTimer_poll _) _⟩
    · exact ⟨h.1, h.2.nak session valid (noticeTimer_poll _)⟩
  · obtain ⟨h1, h2, h3, h4, h5⟩ := h.2
    exact ⟨h.1, h1, h2, h3, h4, h5⟩

theorem DeliveryOk.ackTimeout (h : DeliveryOk s) : DeliveryOk (ackTimeout s) := by
  unfold Machine.ackTimeout
  split
  · exact h
  · exact ⟨h.1, h.2.fall_back rfl rfl rfl rfl⟩

/-- A first ATTACH leaves the pointers of a DETACHED part, one that replaces a session resets them (R178, R179). -/
theorem DeliveryOk.attach (h : DeliveryOk s) (p : Session) : DeliveryOk (carryAttach p s).1 := by
  unfold carryAttach
  simp only
  split
  · exact ⟨h.1, .of_oldest rfl rfl rfl⟩
  · rename_i hs
    obtain ⟨h1, h2, h3, h4, h5⟩ := h.2
    have off : s.link.session = none := Option.not_isSome_iff_eq_none.mp hs
    exact ⟨h.1, h1, h2, h3, nofun, fun _ => h5 (.inr (.inr off))⟩

theorem readDeliveryConfig_window {bs : List Byte} {p : DeliveryMode × Nat × Nat}
    (h : readDeliveryConfig s bs = some p) : p.2.1 ≤ 16 := by
  unfold readDeliveryConfig at h
  split at h
  · simp only [Option.bind_eq_bind, Option.bind_eq_some_iff, Option.some.injEq] at h
    obtain ⟨_, _, _, hw, _, _, rfl⟩ := h
    exact (readRange_eq_some hw).2
  · cases h

theorem fetchCount_le_window (k : Nat) (s : State) : fetchCount k s ≤ s.delivery.window :=
  le_trans (min_le_right _ _) (min_le_left _ _)

theorem fetchCount_le_occupancy (k : Nat) (s : State) : fetchCount k s ≤ s.queue.records.length :=
  le_trans (min_le_right _ _) (le_trans (min_le_right _ _) (min_le_left _ _))

theorem DeliveryOk.fetch (h : DeliveryOk s) (ha : Attached s) (k : Nat) : DeliveryOk (carryFetch k s).1 := by
  have session : s.link.session ≠ none := Option.isSome_iff_ne_none.mp ha
  unfold carryFetch
  split
  · exact h
  · rename_i hm
    exact ⟨h.1, h.2.fetch h.1 hm session (fetchCount_le_window k s) (fetchCount_le_occupancy k s)⟩

theorem DeliveryOk.keptByCommand (c : Instr) : KeptByCommand c DeliveryOk where
  toKeptByRoutes := DeliveryOk.keptByRoutes
  toKeptByEvents := DeliveryOk.keptByEvents
  advance := fun _ _ h => h
  wires := fun _ _ _ h => h
  timebase := fun _ _ _ h => h
  timeSet := fun _ _ _ h => h
  syncLoad := fun _ s arm h => h.grown ⟨syncLoad_grown arm s, by rw [syncLoad_eq], by rw [syncLoad_eq]⟩
  trigger := fun _ _ _ h => h
  link := fun s l hl h => ⟨h.1, hl ▸ h.2⟩
  pending := fun _ _ h => h
  cold := fun _ _ _ => ⟨.reset _, .of_oldest rfl rfl rfl⟩
  warm := fun _ _ _ => ⟨.reset _, .of_oldest rfl rfl rfl⟩
  completion := fun _ _ h => h
  endLead := fun s l h => h.grown (endLead_frame l s).undelivered
  endGap := fun s l h => h.grown (endGap_frame l s).undelivered
  endPulse := fun s l h => h.grown (endPulse_frame l s).undelivered
  outputConfig := fun s p h => h.grown (carryOutputConfig_frame p s).undelivered
  outputAction := fun s p h => h.grown (carryOutputAction_frame p s).undelivered
  outputStop := fun s l h => h.grown (carryOutputStop_frame l s).undelivered
  enterSafe := fun s h => h.grown (enterSafe_onLines s).undelivered
  leaveSafe := fun s h => h.grown (leaveSafe_frame s).undelivered
  enables := fun _ _ ⟨hq, h1, h2, h3, h4, h5⟩ => ⟨hq, h1, h2, h3, h4, h5⟩
  ackTimeout := fun _ h => h.ackTimeout
  notice := fun _ _ ack payload ha h => h.notice ha ack payload
  endSession := fun _ h => ⟨h.1, .of_oldest rfl rfl rfl⟩
  handover := fun _ _ ho h => h.handover ho
  attach := fun _ p h => h.attach p
  deliveryConfig := fun _ _ _ _ hr h => ⟨h.1, h.2.configure (readDeliveryConfig_window hr) rfl rfl rfl⟩
  fetch := fun _ _ k ha _ h => h.fetch ha k
  stopAll := fun _ h => h
  axisConfig := fun s _ p _ h => h.grown (carryAxisConfig_frame p s).undelivered
  setPosition := fun s _ p _ h => h.grown (carrySetPosition_frame p s).undelivered
  home := fun s p h => h.grown (carryHome_frame p s).undelivered
  homeCancel := fun s n h => h.grown (carryHomeCancel_frame n s).undelivered
  stageAdd := fun s _ p _ h => h.grown (carryStageAdd_frame p s).undelivered
  stageRemove := fun s p h => h.grown (carryStageRemove_frame p s).undelivered
  stageClear := fun s n h => h.grown (carryStageClear_frame n s).undelivered
  stageCopy := fun s n h => h.grown (carryStageCopy_frame n s).undelivered
  schedConfig := fun s p h => h.grown (carrySchedConfig_frame p s).undelivered
  cancel := fun s n h => h.grown (cancelCommit_frame n s).undelivered
  start := fun s n h => h.grown (carrySchedStart_frame n s).undelivered
  commit := fun _ s p h => h.grown (carryCommit_frame p s).undelivered

end

end Sys2Proof.Machine

namespace Sys2Proof.Proofs

open Sys2Proof.Machine

/-- Settles O53: every operation keeps the pointers in order over a numbered queue. -/
theorem deliveryPointersStayInOrder : Obligations.DeliveryPointersStayInOrder := fun s t hq hd he =>
  deliveryInv_iff.mpr (step_keeps DeliveryOk.keptByCommand s t ⟨hq, deliveryInv_iff.mp hd⟩ he).2

end Sys2Proof.Proofs
end

section
/-! SUPPORT and the settling of O1 to O4. A step takes the front command; a reset leaves every block at its reset values;
the completion of a reset takes the levels of the lines. -/

namespace Sys2Proof.Machine

/-- A step on a waiting command (section 5.4). -/
theorem step_pending {s : State} {c : Instr} {rest : List Instr} (h : s.pending = c :: rest) :
    step s = exec c { s with pending := rest } := by
  unfold step
  rw [h]

/-- A step on an empty queue lets a tick pass. -/
theorem step_idle {s : State} (h : s.pending = []) : step s = .next (s.advance 1) := by
  unfold step
  rw [h]

/-- What every reset leaves: each unit of each block at the values of its table. -/
theorem resetTables_of_blocks {s t : State} {next : Word32} {baud : Baud}
    (haxes : t.axes = s.axes.map fun x => .reset x.decoder) (hscheds : t.scheds = Vector.replicate 4 .reset)
    (hfree : t.free = 512) (hlines : t.lines = Vector.replicate 8 .reset) (hsafe : t.safe = false)
    (htriggers : t.triggers = s.triggers.map fun x => .reset x.level) (hroutes : t.routes = Vector.replicate 16 .reset)
    (harm : t.timebase.arm = none) (hqueue : t.queue = .reset next) (hdelivery : t.delivery = .reset next)
    (hlink : ∃ hello, t.link = { Link.reset baud with hello := hello }) : ResetTables next baud t := by
  obtain ⟨hello, hlink⟩ := hlink
  refine ⟨fun n => ⟨(s.axis n).decoder, ?_⟩, fun n => ?_, hfree, fun l => ?_, hsafe,
    fun k => ⟨(s.trigger k).level, ?_⟩, fun r => ?_, harm, hqueue, hdelivery, hello, 0, hlink⟩
  · simp [State.axis, haxes, Axis.reset, AxisConfig.reset]
  · simp [State.sched, hscheds, Schedule.reset]
  · simp [State.line, hlines, Line.reset]
  · simp [State.trigger, htriggers, Trigger.reset]
  · simp [State.route, hroutes, Route.reset]

theorem coldReset_tables (s : State) : ResetTables 1#32 .b115200 (coldReset s) :=
  resetTables_of_blocks (s := s) rfl rfl rfl rfl rfl rfl rfl rfl rfl rfl ⟨none, rfl⟩

theorem beginWarmReset_tables (s : State) : ResetTables s.queue.next s.link.baud (beginWarmReset s) :=
  resetTables_of_blocks (s := s) rfl rfl rfl rfl rfl rfl rfl rfl rfl rfl ⟨none, rfl⟩

theorem State.reset_axes : State.reset.axes = State.reset.axes.map fun x => .reset x.decoder := by
  simp [State.reset, Axis.reset]

theorem State.reset_triggers : State.reset.triggers = State.reset.triggers.map fun x => .reset x.level := by
  simp [State.reset, Trigger.reset]

theorem State.reset_tables : ResetTables 1#32 .b115200 State.reset :=
  resetTables_of_blocks State.reset_axes rfl rfl rfl rfl State.reset_triggers rfl rfl rfl rfl ⟨_, rfl⟩

/-- The end of a reset, unit by unit (R189, R190). -/
theorem completeReset_axis (reason : HelloReason) (s : State) (n : AxisId) : (completeReset reason s).axis n =
    { s.axis n with decoder := (s.axis n).decoder.sampled s.now (s.axisWires n) } := by
  simp [completeReset, State.axis, State.axisWires]

theorem completeReset_axisWires (reason : HelloReason) (s : State) (n : AxisId) :
    (completeReset reason s).axisWires n = (s.axisWires n).after s.now := by
  simp [completeReset, State.axisWires, Wires.after]

theorem completeReset_trigger (reason : HelloReason) (s : State) (k : TriggerId) : (completeReset reason s).trigger k =
    { s.trigger k with level := lineLevel s.now (s.trigger k).level (s.triggerWire k) } := by
  simp [completeReset, State.trigger, State.triggerWire]

theorem completeReset_triggerWire (reason : HelloReason) (s : State) (k : TriggerId) :
    (completeReset reason s).triggerWire k = changesAfter s.now (s.triggerWire k) := by
  simp [completeReset, State.triggerWire, Wires.after]

/-- The command that completes a reset completes it in its own phase. -/
theorem exec_resetComplete {s : State} {warm : Bool} (h : s.phase = if warm then .warmReset else .coldReset) :
    exec (if warm then .warmResetComplete else .coldResetComplete) s =
      .next (completeReset (if warm then .warm else .cold) s) := by
  cases warm with
  | true =>
    show Host.Outcome.next (completeWarm s) = _
    rw [completeWarm, h]
    rfl
  | false =>
    show Host.Outcome.next (completeCold s) = _
    rw [completeCold, h]
    rfl

/-- No list holds an entry and nothing is outstanding after a reset. -/
theorem State.reset_inv : Inv State.reset where
  pool := rfl
  lists := (orderKept .coldReset).reset (.inl rfl) 0 State.reset.scheds (fun m => by
    simp only [Fin.getElem_fin, State.reset, Vector.getElem_replicate]
    exact ⟨listOk_nil, listOk_nil, by simp [Schedule.reset]⟩)
  running := runningBut_none.mp (.of_reset rfl)
  output := LinesSettled.reset
  queue := QueueInv.reset 1#32
  delivery := deliveryInv_iff.mpr (.of_oldest rfl rfl rfl)
  cache := CacheInv.of_empty rfl
  intake := Nat.zero_le 4
  positions := .of_reset State.reset_axes
  wires := ⟨by decide, by decide, .nil⟩

end Sys2Proof.Machine

namespace Sys2Proof.Proofs

open Sys2Proof.Machine

/-- Settles O1. -/
theorem frontCommandIsCarriedOut : Obligations.FrontCommandIsCarriedOut := fun _ _ _ h => step_pending h

/-- Settles O2: both resets leave the blocks of `resetBlocks`, and keep what each keeps. -/
theorem resetsGiveTheResetTables : Obligations.ResetsGiveTheResetTables := by
  refine ⟨fun s => ⟨_, rfl, rfl, coldReset_tables s, rfl, rfl, rfl, rfl, rfl⟩, fun s frame hp ht => ?_⟩
  refine ⟨beginWarmReset (s.setLink { s.link with transmitter := .free }), ?_, rfl, beginWarmReset_tables _, rfl, rfl,
    rfl, rfl, rfl⟩
  show Host.Outcome.next (whenRunning frameComplete s) = _
  rw [whenRunning, hp]
  exact congrArg _ (frameComplete_warm ht)

/-- Settles O3: each unit takes the level of its line, and HELLO is made. -/
theorem resetCompletionTakesTheLinesAndMakesHello : Obligations.ResetCompletionTakesTheLinesAndMakesHello :=
  fun s _ h => ⟨_, exec_resetComplete h, completeReset_axis _ s, completeReset_axisWires _ s,
    completeReset_trigger _ s, completeReset_triggerWire _ s, rfl, rfl⟩

/-- Settles O4: the tables and every relation hold at reset. -/
theorem resetStateHoldsTheTablesAndEveryRelation : Obligations.ResetStateHoldsTheTablesAndEveryRelation :=
  ⟨⟨State.reset_tables, rfl, rfl, rfl, rfl⟩, State.reset_inv⟩

end Sys2Proof.Proofs
end

section
/-! SUPPORT and the settling of O5, O59 and O60. An event outside its conditions leaves the state; the events of one axis
reach no other axis; the Timebase count runs with the time measure unless a load or a cold reset moves it. -/

namespace Sys2Proof.Machine

/-! ### Events that are not admitted -/

section
variable {n : AxisId} {s : State}

theorem whenRunning_eq_self {f : State → State} (h : s.phase = .running → f s = s) : whenRunning f s = s := by
  unfold whenRunning
  split
  · exact h ‹_›
  · rfl
  · rfl

theorem whenRunning_running (f : State → State) (h : s.phase = .running) : whenRunning f s = f s := by
  rw [whenRunning, h]

theorem countEvent_none (takes : List Nat) (h : ∀ c, s.nextPair n = some c → (s.axis n).counts c = none) :
    countEvent n takes s = s := by
  unfold countEvent
  split
  · rfl
  · rename_i c hc
    rw [h c hc]

theorem quadratureError_none (h : ∀ c, s.nextPair n = some c → (s.axis n).errs c = false) : quadratureError n s = s := by
  unfold quadratureError
  split
  · rfl
  · rename_i c hc
    simp [h c hc]

/-- A quadrature error changes both levels (R4). -/
theorem isQuadError_false {m : CountMode} {a b a' b' : Level} (h : a' = a ∨ b' = b) : isQuadError m a b a' b' = false := by
  rcases h with rfl | rfl <;> cases m <;> simp [isQuadError]

theorem pairChange_none (h : s.nextPair n = none) : pairChange n s = s := by
  unfold pairChange
  rw [h]

theorem indexArrival_none (h : s.nextIndex n = none ∨ (s.axis n).decoder.index = .high) : indexArrival n s = s := by
  unfold indexArrival
  split
  · rename_i c hl hc
    simp [hl, hc] at h
  · rfl
  · rfl

theorem endLead_free {l : LineId} (h : (s.line l).running = none) : endLead l s = s := by
  unfold endLead
  rw [h]

theorem endGap_free {l : LineId} (h : (s.line l).running = none) : endGap l s = s := by
  unfold endGap
  rw [h]

theorem endPulse_free {l : LineId} (h : (s.line l).running = none) : endPulse l s = s := by
  unfold endPulse
  rw [h]

theorem holdoffExpiry_none {k : TriggerId} (h : (s.trigger k).holdoffEnd = none) : holdoffExpiry k s = s := by
  unfold holdoffExpiry
  rw [h]

theorem ackTimeout_none (h : s.delivery.ackTimer = none) : ackTimeout s = s := by
  unfold ackTimeout
  rw [h]

theorem keepaliveExpiry_none (h : s.link.keepalive = none) : keepaliveExpiry s = s := by
  unfold keepaliveExpiry
  rw [h]

/-- A request command finds no request to take: in a reset, behind a hold, or with none waiting (R174). -/
theorem request_idle {c : Instr} {op : RequestOp} (hc : requestOf c = some op)
    (h : s.phase ≠ .running ∨ s.link.hold ≠ .none ∨ s.link.waiting = []) : exec c s = .next s := by
  cases c
  all_goals first
    | exact congrArg Host.Outcome.next (takeRequest_idle h)
    | cases hc

end

/-! ### The events of one axis -/

/-- `t` is `s` with axis n replaced, and changed further as the Route Table and the schedules can. -/
def AxisChange (n : AxisId) (s t : State) : Prop := ∃ x, RoutesChange (s.setAxis n x) t

section
variable {n m : AxisId} {s t u : State}

theorem AxisChange.refl (n : AxisId) (s : State) : AxisChange n s s :=
  ⟨s.axis n, by rw [State.setAxis_self]; exact .refl s⟩

theorem AxisChange.routes (h : AxisChange n s t) (hu : RoutesChange t u) : AxisChange n s u := by
  obtain ⟨x, hx⟩ := h
  exact ⟨x, hx.trans hu⟩

theorem AxisChange.setAxis (h : AxisChange n s t) (x : Axis) : AxisChange n s (t.setAxis n x) := by
  obtain ⟨_, lines, scheds, free, routes, q, hq, rfl⟩ := h
  exact ⟨x, lines, scheds, free, routes, q, hq, by simp [State.setAxis]⟩

theorem RoutesChange.produceIf (e : Bool) (i : Item) (s : State) : RoutesChange s (s.produceIf e i) := by
  rw [State.produceIf_eq]
  exact ⟨_, _, _, _, _, (Grown.refl _).offer e i, rfl⟩

theorem AxisChange.axisRecord (h : AxisChange n s t) (reason : AxisReason) : AxisChange n s (axisRecord n reason t) :=
  h.routes (.produceIf _ _ t)

theorem AxisChange.jump (h : AxisChange n s t) : AxisChange n s (jump n t) := h.routes (jump_frame n t).routesChange

theorem AxisChange.enterLost (h : AxisChange n s t) (reason : LostReason) : AxisChange n s (enterLost n reason t) := by
  have lost := (h.setAxis { t.axis n with ref := .lost reason }).axisRecord (.lost reason)
  unfold Machine.enterLost
  refine AxisChange.routes ?_ (sendEvent_frame _ _ _)
  unfold departIf
  split
  · exact lost.routes (departure_frame n _).routesChange
  · exact lost

theorem AxisChange.applyCount (h : AxisChange n s t) (d : Dir) (takes : List Nat) :
    AxisChange n s (applyCount n d takes t) := by
  unfold Machine.applyCount
  split
  · exact (h.setAxis _).routes (countNotice_frame n d takes _)
  · split
    · exact h
    · exact h.enterLost _

theorem AxisChange.countError (h : AxisChange n s t) : AxisChange n s (countError n t) := by
  unfold Machine.countError
  simp only
  split
  · exact (h.setAxis _).enterLost _
  · exact h.setAxis _

theorem AxisChange.completeHoming (h : AxisChange n s t) : AxisChange n s (completeHoming n t) :=
  ((h.setAxis _).axisRecord _).jump

theorem AxisChange.homingIndex (h : AxisChange n s t) : AxisChange n s (homingIndex n t) := by
  unfold Machine.homingIndex
  simp only
  split
  · split
    · exact h.completeHoming
    · exact h
  all_goals exact h

theorem AxisChange.checkArrival (h : AxisChange n s t) (slip : Int) : AxisChange n s (checkArrival n slip t) := by
  unfold Machine.checkArrival
  simp only
  split
  · exact h.enterLost _
  · split
    · exact (h.setAxis _).jump
    · exact h

theorem AxisChange.arrive (h : AxisChange n s t) : AxisChange n s (arrive n t) := by
  unfold Machine.arrive
  simp only
  refine (AxisChange.homingIndex ?_).routes (sendEvent_frame _ _ _)
  have reported : ∀ slip time, AxisChange n s (indexRecord n (t.axis n) slip time (noteIndex n t)) := fun slip time =>
    (h.setAxis _).routes (.produceIf _ _ _)
  split
  · exact (reported _ _).checkArrival _
  · exact reported _ _

/-- Neither another axis nor its lines have changed. -/
def SameAxis (m : AxisId) (s t : State) : Prop := t.axis m = s.axis m ∧ t.axisWires m = s.axisWires m

theorem AxisChange.sameAxis (h : AxisChange n s t) (hm : m ≠ n) : SameAxis m s t := by
  obtain ⟨x, _, _, _, _, _, _, rfl⟩ := h
  exact ⟨State.setAxis_axis_ne s n x hm, rfl⟩

theorem takePair_sameAxis (c : PairChange) (hm : m ≠ n) : SameAxis m s (s.takePair n c) :=
  ⟨State.takePair_axis_ne s n c hm, State.setAxisWires_ne (s.runTo c.time) n c.wires hm⟩

theorem takeIndex_sameAxis (c : LineChange) (hm : m ≠ n) : SameAxis m s (s.takeIndex n c) :=
  ⟨State.takeIndex_axis_ne s n c hm, State.setAxisWires_ne (s.runTo c.time) n _ hm⟩

theorem SameAxis.trans (h : SameAxis m s t) (h' : SameAxis m t u) : SameAxis m s u :=
  ⟨h'.1.trans h.1, h'.2.trans h.2⟩

theorem SameAxis.refl (m : AxisId) (s : State) : SameAxis m s s := ⟨rfl, rfl⟩

theorem countEvent_sameAxis (takes : List Nat) (hm : m ≠ n) : SameAxis m s (countEvent n takes s) := by
  unfold countEvent
  split
  · exact .refl m s
  · split
    · exact (takePair_sameAxis _ hm).trans (((AxisChange.refl n _).applyCount _ _).sameAxis hm)
    · exact .refl m s

theorem quadratureError_sameAxis (hm : m ≠ n) : SameAxis m s (quadratureError n s) := by
  unfold quadratureError
  split
  · exact .refl m s
  · split
    · exact (takePair_sameAxis _ hm).trans ((AxisChange.refl n _).countError.sameAxis hm)
    · exact .refl m s

theorem indexArrival_sameAxis (hm : m ≠ n) : SameAxis m s (indexArrival n s) := by
  unfold indexArrival
  split
  · exact (takeIndex_sameAxis _ hm).trans ((AxisChange.refl n _).arrive.sameAxis hm)
  · exact .refl m s
  · exact .refl m s

theorem decoderChange_sameAxis (lines : DecoderLines) (hm : m ≠ n) : SameAxis m s (decoderChange n lines s) := by
  cases lines with
  | pair =>
    show SameAxis m s (pairChange n s)
    unfold pairChange
    split
    · exact .refl m s
    · split
      · exact .refl m s
      · exact takePair_sameAxis _ hm
  | index =>
    show SameAxis m s (indexFall n s)
    unfold indexFall
    split
    · exact takeIndex_sameAxis _ hm
    · exact .refl m s
    · exact .refl m s

theorem whenRunning_sameAxis {f : State → State} (hf : SameAxis m s (f s)) : SameAxis m s (whenRunning f s) := by
  unfold whenRunning
  split
  · exact hf
  · exact .refl m s
  · exact .refl m s

end

/-! ### The Timebase count and the running time -/

/-- How far the count stands from the time measure. -/
def State.offset (s : State) : Ticks := s.timebase.count - BitVec.ofNat 48 s.now

/-- The count runs, and stands at this distance from the time measure (R117, R118). -/
def RunsAt (d : Ticks) (s : State) : Prop := s.phase ≠ .coldReset ∧ s.offset = d

section
variable {n : AxisId} {s t : State} {d : Ticks}

/-- The count runs with the time measure (R118). -/
theorem RunsAt.advance (h : RunsAt d s) (e : Nat) : RunsAt d (s.advance e) := by
  obtain ⟨hp, ho⟩ := h
  refine ⟨hp, ?_⟩
  unfold State.offset at ho ⊢
  rw [← ho]
  simp only [State.advance, if_neg hp, BitVec.ofNat_add]
  exact add_sub_add_right_eq_sub _ _ _

theorem RoutesChange.runsAt (ht : RoutesChange s t) (h : RunsAt d s) : RunsAt d t := by
  obtain ⟨_, _, _, _, _, _, rfl⟩ := ht
  exact h

theorem OnSchedule.runsAt (ht : OnSchedule n s t) (h : RunsAt d s) : RunsAt d t := ht.routesChange.runsAt h

theorem OnAxis.runsAt (ht : OnAxis n s t) (h : RunsAt d s) : RunsAt d t := by
  obtain ⟨_, _, _, _, _, _, rfl⟩ := ht
  exact h

theorem OnLines.runsAt (ht : OnLines s t) (h : RunsAt d s) : RunsAt d t := by
  obtain ⟨e, _, _, _, _, rfl⟩ := ht
  exact h.advance e

theorem OnLink.runsAt (ht : OnLink s t) (h : RunsAt d s) : RunsAt d t := by
  obtain ⟨e, _, _, rfl⟩ := ht
  exact h.advance e

theorem EventsChange.runsAt (ht : EventsChange s t) (h : RunsAt d s) : RunsAt d t := by
  obtain ⟨e, _, _, _, hr⟩ := ht
  refine hr.runsAt ?_
  exact h.advance e

/-- Every command but TIME_SET, a SYNC edge and a cold reset lets the count run with the time measure. -/
theorem RunsAt.keptByCommand {c : Instr} (hset : c ≠ .timeSet) (hsync : c ≠ .syncEdge) (hcold : c ≠ .coldReset)
    (d : Ticks) : KeptByCommand c (RunsAt d) where
  routes := fun _ _ h => h
  record := fun _ _ h => h
  output := fun s l act h => by
    obtain ⟨_, _, _, he⟩ := issueAction_frame l act s
    rw [he]
    exact h
  schedule := fun s n act _ => (takeSchedAct_frame n act s).runsAt
  countEvent := fun _ takes s => ((EventsChange.kept s).countEvent trivial takes s (.refl s)).runsAt
  quadratureError := fun _ s => ((EventsChange.kept s).quadratureError trivial s (.refl s)).runsAt
  indexArrival := fun _ s => ((EventsChange.kept s).indexArrival trivial s (.refl s)).runsAt
  decoderChange := fun _ lines s => ((EventsChange.kept s).decoderChange trivial lines s (.refl s)).runsAt
  triggerEdge := fun k before after s => ((EventsChange.kept s).triggerEdge (fun _ => trivial)
    (fun u _ _ hu => hu.units u.axes _) k before after s (.refl s)).runsAt
  advance := fun _ e h => h.advance e
  wires := fun _ _ _ h => h
  timebase := fun s t ht ⟨hp, ho⟩ => ⟨hp, by rw [← ho, State.offset, State.offset, ← ht]; rfl⟩
  timeSet := fun hc => absurd hc hset
  syncLoad := fun hc => absurd hc hsync
  trigger := fun _ _ _ h => h
  link := fun _ _ _ h => h
  pending := fun _ _ h => h
  cold := fun hc => absurd hc hcold
  warm := fun _ _ h => ⟨nofun, h.2⟩
  completion := fun _ _ h => ⟨nofun, h.2⟩
  endLead := fun s l => (endLead_frame l s).runsAt
  endGap := fun s l => (endGap_frame l s).runsAt
  endPulse := fun s l => (endPulse_frame l s).runsAt
  outputConfig := fun s p => (carryOutputConfig_frame p s).runsAt
  outputAction := fun s p => (carryOutputAction_frame p s).runsAt
  outputStop := fun s l => (carryOutputStop_frame l s).runsAt
  enterSafe := fun s => (enterSafe_onLines s).runsAt
  leaveSafe := fun s => (leaveSafe_frame s).runsAt
  enables := fun _ _ h => h
  ackTimeout := fun s => (ackTimeout_frame s).runsAt
  notice := fun _ s ack payload _ h => by
    obtain ⟨_, _, he⟩ := judgeNotice_frame ack payload s
    rw [he]
    exact h
  endSession := fun s => (endSession_frame s).runsAt
  handover := fun s _ _ => (handover_frame s).runsAt
  attach := fun s p => (carryAttach_frame p s).runsAt
  deliveryConfig := fun s _ p _ _ => (carryDeliveryConfig_frame p s).runsAt
  fetch := fun s _ k _ _ => (carryFetch_frame k s).runsAt
  stopAll := fun _ h => h
  axisConfig := fun s _ p _ => (carryAxisConfig_frame p s).runsAt
  setPosition := fun s _ p _ => (carrySetPosition_frame p s).runsAt
  home := fun s p => (carryHome_frame p s).runsAt
  homeCancel := fun s n => (carryHomeCancel_frame n s).runsAt
  stageAdd := fun s _ p _ => (carryStageAdd_frame p s).runsAt
  stageRemove := fun s p => (carryStageRemove_frame p s).runsAt
  stageClear := fun s n => (carryStageClear_frame n s).runsAt
  stageCopy := fun s n => (carryStageCopy_frame n s).runsAt
  schedConfig := fun s p => (carrySchedConfig_frame p s).runsAt
  cancel := fun s n => (cancelCommit_frame n s).runsAt
  start := fun s n => (carrySchedStart_frame n s).runsAt
  commit := fun _ s p => (carryCommit_frame p s).runsAt

/-- Outside a cold reset time runs on to the wrap, where the count is 0 (R118). -/
theorem timebaseWrap_eq (h : s.phase ≠ .coldReset) : timebaseWrap s = { s with
    now := s.now + (2 ^ 48 - s.timebase.count.toNat), timebase := { s.timebase with count := 0#48 } } := by
  have wraps : s.timebase.count + BitVec.ofNat 48 (2 ^ 48 - s.timebase.count.toNat) = 0#48 := by
    generalize s.timebase.count = x
    bv_omega
  have advances : timebaseWrap s = s.advance (2 ^ 48 - s.timebase.count.toNat) := by
    unfold timebaseWrap
    split
    · exact absurd ‹_› h
    · rfl
    · rfl
  rw [advances, State.advance, if_neg h, wraps]

end

end Sys2Proof.Machine

namespace Sys2Proof.Proofs

open Sys2Proof.Machine

/-- Settles O5: a tick and the wrap are the passing of time, and every other operation keeps the distance of the count
from the time measure. -/
theorem ticksTheWrapAndLoadsMoveTheCount : Obligations.TicksTheWrapAndLoadsMoveTheCount := by
  refine ⟨fun s hq => ⟨fun hp => ?_, fun hp => ?_⟩, fun s hp => ?_, fun s t c he hp hset hsync hcold => ?_⟩
  · rw [step_idle hq, State.advance, if_neg hp]
  · rw [step_idle hq, State.advance, if_pos hp]
  · exact congrArg Host.Outcome.next (timebaseWrap_eq hp)
  · exact ((RunsAt.keptByCommand hset hsync hcold s.offset).exec s t ⟨hp, rfl⟩ he).2

/-- Settles O59: an event of axis n takes its own change and then changes axis n alone. -/
theorem axesAreIndependent : Obligations.AxesAreIndependent := by
  intro s t n m lines takes c hm hc he
  simp only [List.mem_cons, List.not_mem_nil, or_false] at hc
  show SameAxis m s t
  rcases hc with rfl | rfl | rfl | rfl <;> cases he
  · exact whenRunning_sameAxis (countEvent_sameAxis takes hm)
  · exact whenRunning_sameAxis (quadratureError_sameAxis hm)
  · exact whenRunning_sameAxis (indexArrival_sameAxis hm)
  · exact whenRunning_sameAxis (decoderChange_sameAxis lines hm)

/-- Settles O60, event by event. -/
theorem eventsNotAdmittedChangeNothing : Obligations.EventsNotAdmittedChangeNothing := by
  intro s l k n takes
  have event : ∀ {f : State → State}, f s = s → Host.Outcome.next (φ := Fault) (ρ := Refusal) (whenRunning f s) = .next s :=
    fun h => congrArg _ (whenRunning_eq_self fun _ => h)
  refine ⟨fun h => ⟨?_, ?_, ?_⟩, fun c hc h => ?_, fun c hc h => ?_, fun h => ?_, fun h => ⟨?_, ?_, ?_⟩, fun h => ?_,
    fun h => ?_, fun h => ?_, fun h c op hop => request_idle hop (.inr (.inr h)), fun h => ⟨?_, ?_, ?_, ?_⟩⟩
  · exact event (countEvent_none takes fun c hc => by rw [h] at hc; cases hc)
  · exact event (quadratureError_none fun c hc => by rw [h] at hc; cases hc)
  · exact event (pairChange_none h)
  · refine event (countEvent_none takes fun c' hc' => ?_)
    rw [hc] at hc'
    cases hc'
    exact h
  · refine event (quadratureError_none fun c' hc' => ?_)
    rw [hc] at hc'
    cases hc'
    exact isQuadError_false h
  · exact event (indexArrival_none h)
  · exact event (endLead_free h)
  · exact event (endPulse_free h)
  · exact event (endGap_free h)
  · exact event (holdoffExpiry_none h)
  · exact event (ackTimeout_none h)
  · exact event (keepaliveExpiry_none h)
  · exact congrArg _ (whenRunning_eq_self fun hp => absurd hp h)
  · exact congrArg _ (whenRunning_eq_self fun hp => absurd hp h)
  · exact congrArg _ (whenRunning_eq_self fun hp => absurd hp h)
  · exact fun c op hop => request_idle hop (.inl h)

end Sys2Proof.Proofs
end

section
/-! SUPPORT and the settling of O24, O25 and O26. A request that is carried out, for a whole state
(`dispatch_answers`), and what OUTPUT_ACTION leaves: the state that the line's own cases give (`takeAction`), with
the reply at the tail. -/

namespace Sys2Proof.Machine

/-- A request that is carried out as one of the state before it was taken. -/
theorem dispatch_answers {α : Type} {op : RequestOp} {read : State → List Byte → Option α}
    {carry : α → State → State × Answer} {s t : State} {r : Request} {rest : List Request} {p : α}
    {status : Status} {payload : List Byte} (h : Takes s r rest) (ha : Attached s) (hop : r.op = op.code)
    (hu : uncached op.code = false) (hl : op.lengthOk r.payload = true) (hr : read (s.took rest) r.payload = some p)
    (hc : carry p (s.took rest) = (t.took rest, .of status payload)) :
    dispatch op read carry s = t.replied r rest status payload :=
  dispatch_carried h hop (.inr ha) hl hr hc hu

/-! ### What an action meets at a line -/

section
variable {l : LineId} {act : OutAction} {s : State} {run : Running}

theorem takeAction_free (h : (s.line l).running = none) :
    takeAction l act s = (s.setLine l ((s.line l).takeFree s.now act), act.outcome .started) := by
  simp [takeAction, h]

theorem takeAction_waits (h : (s.line l).running = some run) (hp : (s.line l).policy = .queue)
    (hw : (s.line l).waiting = none) :
    takeAction l act s = (s.setLine l { s.line l with waiting := some act }, .queued) := by
  simp [takeAction, h, hp, hw]

theorem takeAction_drops (h : (s.line l).running = some run)
    (hp : (s.line l).policy = .drop ∨ ((s.line l).policy = .queue ∧ (s.line l).waiting ≠ none)) :
    takeAction l act s = (dropAction l .dropped s, .dropped) := by
  rcases hp with hp | ⟨hp, hw⟩
  · simp [takeAction, h, hp]
  · obtain ⟨w, hw⟩ := Option.ne_none_iff_exists'.mp hw
    simp [takeAction, h, hp, hw]

/-- The line after a preemption. -/
def Line.preempted (now : Nat) (x : Line) : Line := { x.cutShort now with preempts := inc16 (x.cutShort now).preempts }

theorem Line.cutShort_of_running {now : Nat} {x : Line} (h : x.running = some run) :
    x.cutShort now =
      { x with running := none, lastPulseEnd := if run.phase = .active then some now else x.lastPulseEnd } := by
  unfold Line.cutShort
  cases hp : run.phase <;> simp [h, hp]

theorem Line.preempted_of_running {now : Nat} {x : Line} (h : x.running = some run) :
    x.preempted now =
      { x with
        running := none
        preempts := min (x.preempts + 1) 65535
        lastPulseEnd := if run.phase = .active then some now else x.lastPulseEnd } := by
  unfold Line.preempted
  rw [Line.cutShort_of_running h]
  rfl

theorem takeAction_preempts (h : (s.line l).running = some run) (hp : (s.line l).policy = .preempt) :
    takeAction l act s =
      ({ s with
         lines := s.lines.set l (((s.line l).preempted s.now).takeFree s.now act)
         queue := s.queue.offer (s.queue.enables.output && (s.line l).report)
           ⟨.output l .preempted (s.line l).drops (min ((s.line l).preempts + 1) 65535), s.timebase.count, []⟩ },
        act.outcome .preempted) := by
  have left : preempt l s = { s with
      lines := s.lines.set l ((s.line l).preempted s.now)
      queue := s.queue.offer (s.queue.enables.output && (s.line l).report)
        ⟨.output l .preempted (s.line l).drops (min ((s.line l).preempts + 1) 65535), s.timebase.count, []⟩ } := by
    rw [preempt_eq, Line.preempted_of_running h, Line.cutShort_of_running h]
    rfl
  unfold takeAction
  simp only [h, hp, left]
  simp [State.setLine, State.line]

/-- The link has no part in what an action meets. -/
theorem takeAction_took (l : LineId) (act : OutAction) (s : State) (rest : List Request) :
    takeAction l act (s.took rest) = ((takeAction l act s).1.took rest, (takeAction l act s).2) := by
  cases h : (s.line l).running with
  | none => rw [takeAction_free h, takeAction_free (s := s.took rest) h]; rfl
  | some run =>
    cases hp : (s.line l).policy with
    | preempt => rw [takeAction_preempts h hp, takeAction_preempts (s := s.took rest) h hp]; rfl
    | drop =>
      rw [takeAction_drops h (.inl hp), takeAction_drops (s := s.took rest) h (.inl hp), dropAction_eq, dropAction_eq]
      rfl
    | queue =>
      cases hw : (s.line l).waiting with
      | none => rw [takeAction_waits h hp hw, takeAction_waits (s := s.took rest) h hp hw]; rfl
      | some w =>
        have full : (s.line l).policy = .queue ∧ (s.line l).waiting ≠ none := ⟨hp, by simp [hw]⟩
        rw [takeAction_drops h (.inr full), takeAction_drops (s := s.took rest) h (.inr full), dropAction_eq,
          dropAction_eq]
        rfl

/-- OUTPUT_ACTION while not SAFE (R89): the line takes the action, and the reply tells what became of it. -/
theorem outputAction_answers {r : Request} {rest : List Request} (h : Takes s r rest) (ha : Attached s)
    (hop : r.op = 0x31#8) (hl : r.payload.length = 8) (hr : readOutputAction s r.payload = some (l, act))
    (hs : s.safe = false) :
    exec .outputAction s =
      .next ((takeAction l act s).1.replied r rest .ok [(takeAction l act s).2.code]) := by
  have length : RequestOp.outputAction.lengthOk r.payload = true := decide_eq_true hl
  have carried : carryOutputAction (l, act) (s.took rest) =
      ((takeAction l act s).1.took rest, .of .ok [(takeAction l act s).2.code]) := by
    have released : (s.took rest).safe = false := hs
    simp only [carryOutputAction, released, takeAction_took, Bool.false_eq_true, if_false]
  exact congrArg Host.Outcome.next
    (dispatch_answers (op := .outputAction) (read := readOutputAction) h ha hop rfl length hr carried)

end

/-! ### A free line -/

theorem Line.start_active {now : Nat} {t : Timed} {x : Line} (h : ∀ e, x.lastPulseEnd = some e → e + 10 ≤ now) :
    x.start now t = { x with running := some ⟨t, .active, t.pulses, now + t.width * 10⟩ } := by
  unfold Line.start
  cases he : x.lastPulseEnd with
  | none => rfl
  | some e =>
    have late : ¬ now < e + Config.ticksPerStep := Nat.not_lt.mpr (h e he)
    simp only [late, if_false]
    rfl

theorem Line.start_lead {now e : Nat} {t : Timed} {x : Line} (he : x.lastPulseEnd = some e) (h : now < e + 10) :
    x.start now t = { x with running := some ⟨t, .lead, t.pulses, e + 10⟩ } := by
  have early : now < e + Config.ticksPerStep := h
  simp only [Line.start, he, early, if_true]
  rfl

/-- SET, CLEAR and TOGGLE, with the steady level that each gives (R78). -/
theorem takeFree_level {act : OutAction} {level : Level} {x : Line} (now : Nat)
    (h : (act = .set ∧ level = .high) ∨ (act = .clear ∧ level = .low) ∨
      (act = .toggle ∧ level = (match x.steady with | .low => .high | .high => .low))) :
    x.takeFree now act = { x with steady := level } ∧ ∀ o, act.outcome o = .applied := by
  rcases h with ⟨rfl, rfl⟩ | ⟨rfl, rfl⟩ | ⟨rfl, rfl⟩
  · exact ⟨rfl, fun _ => rfl⟩
  · exact ⟨rfl, fun _ => rfl⟩
  · refine ⟨?_, fun _ => rfl⟩
    cases hx : x.steady <;> simp [Line.takeFree, hx, Level.flip]

end Sys2Proof.Machine

namespace Sys2Proof.Proofs

open Sys2Proof.Machine

/-- Settles O24: the line is free, and takes the action as its kind says. -/
theorem freeLineTakesTheAction : Obligations.FreeLineTakesTheAction := by
  intro s r rest l act h ha hop hl hr hs free taken
  have done := outputAction_answers h ha hop hl hr hs
  rw [takeAction_free free] at done
  refine ⟨fun e => ?_, fun e => ?_, fun e => ?_, fun t e => ⟨fun long => ?active, fun e' he short => ?lead⟩⟩
  · subst e; exact done
  · subst e; exact done
  · subst e; exact done
  case active =>
    subst e
    have late : ∀ e, (s.line l).lastPulseEnd = some e → e + 10 ≤ s.now := by
      rcases long with none | ⟨e, he, late⟩
      · simp [none]
      · intro e' he'
        rw [he] at he'
        cases he'
        exact late
    rw [Line.takeFree, Line.start_active late] at done
    cases t <;> exact done
  case lead =>
    subst e
    rw [Line.takeFree, Line.start_lead he short] at done
    cases t <;> exact done

/-- Settles O25: the cases of an occupied line, by its policy; after a preemption the line is free and takes the
action as such. -/
theorem occupiedLineFollowsItsPolicy : Obligations.OccupiedLineFollowsItsPolicy := by
  constructor
  · intro s r rest l act run h ha hop hl hr hs occupied reports
    have done := outputAction_answers h ha hop hl hr hs
    refine ⟨fun hp hw => ?waits, fun hp => ?drops, fun level hp hact => ?level⟩
    case waits =>
      rw [takeAction_waits occupied hp hw] at done
      exact done
    case drops =>
      rw [takeAction_drops occupied hp, dropAction_eq] at done
      exact done
    case level =>
      rw [takeAction_preempts occupied hp, Line.preempted_of_running occupied] at done
      obtain ⟨taken, applied⟩ := takeFree_level (x := { s.line l with
        running := none
        preempts := min ((s.line l).preempts + 1) 65535
        lastPulseEnd := if run.phase = .active then some s.now else (s.line l).lastPulseEnd }) s.now hact
      rw [taken, applied] at done
      exact done
  · intro s r rest l t run h ha hop hl hr hs occupied hp pulses width taken
    have done := outputAction_answers h ha hop hl hr hs
    rw [takeAction_preempts occupied hp, Line.preempted_of_running occupied, Line.takeFree] at done
    refine ⟨fun active => ?ended, fun e other he short => ?lead, fun other late => ?active⟩
    case ended =>
      rw [Line.start_lead (e := s.now) (by simp [active]) (by omega)] at done
      simp only [active, if_true] at done
      cases t <;> exact done
    case lead =>
      rw [Line.start_lead (e := e) (by simp [other, he]) short] at done
      simp only [other, if_false, he] at done
      cases t <;> exact done
    case active =>
      rw [Line.start_active (by simpa [other] using late)] at done
      simp only [other, if_false] at done
      cases t <;> exact done

/-- Settles O26: both meet the line by `takeAction`; while SAFE the action is dropped. -/
theorem issuedActionsMeetTheLineLikeRequests : Obligations.IssuedActionsMeetTheLineLikeRequests := by
  refine ⟨fun s r rest l act h ha hop hl hr hs => ⟨(takeAction l act s).2.code, ?_⟩,
    fun s l act hs => ?_⟩
  · have issued : issueAction l act s = (takeAction l act s).1 := by simp [issueAction, hs]
    rw [issued]
    exact outputAction_answers h ha hop hl hr hs
  · have dropped : issueAction l act s = dropAction l .droppedSafe s := by simp [issueAction, hs]
    rw [dropped, dropAction_eq]
    rfl

end Sys2Proof.Proofs
end

section
/-! SUPPORT and the settling of O28 and O29. The ends of the phases at their moments, one equation per event; a TRAIN
is followed by induction over its pulses (`follow_trainEvents`). -/

namespace Sys2Proof.Machine

section
variable {l : LineId} {s : State} {run : Running}

theorem endLead_lead (hr : (s.line l).running = some run) (hp : run.phase = .lead) :
    endLead l s = (s.runTo run.due).setLine l { s.line l with
      running := some ⟨run.action, .active, run.remaining, run.due + run.action.width * 10⟩ } := by
  unfold endLead
  simp only [hr, hp]
  rfl

theorem endGap_gap (hr : (s.line l).running = some run) (hp : run.phase = .gap) :
    endGap l s = (s.runTo run.due).setLine l { s.line l with
      running := some ⟨run.action, .active, run.remaining, run.due + run.action.width * 10⟩ } := by
  unfold endGap
  simp only [hr, hp]
  rfl

theorem endPulse_active (hr : (s.line l).running = some run) (hp : run.phase = .active) :
    endPulse l s = (s.runTo run.due).setLine l ((s.line l).endPulse (s.runTo run.due).now run) := by
  simp only [endPulse, hr, hp]

variable {now : Nat} {x : Line}

theorem Line.endPulse_more (h : 1 < run.remaining) :
    x.endPulse now run =
      { x with
        running := some ⟨run.action, .gap, run.remaining - 1, run.due + run.action.gap * 10⟩
        lastPulseEnd := some now } := by
  unfold Line.endPulse
  simp only [h, if_true]
  rfl

theorem Line.endPulse_last (h : run.remaining ≤ 1) (hw : x.waiting = none) :
    x.endPulse now run = { x with running := none, lastPulseEnd := some now } := by
  simp [Line.endPulse, Nat.not_lt.mpr h, hw]

theorem Line.endPulse_takes {act : OutAction} (h : run.remaining ≤ 1) (hw : x.waiting = some act) :
    x.endPulse now run =
      Line.takeFree now act { x with running := none, waiting := none, lastPulseEnd := some now } := by
  simp [Line.endPulse, Nat.not_lt.mpr h, hw]

end

/-! ### A TRAIN -/

theorem follow_cons {c : Instr} {cs : List Instr} {s t : State} (h : exec c s = .next t) :
    follow (c :: cs) s = follow cs t := by
  simp only [follow, h]

theorem readAction_train {kind w c p width count period : Nat}
    (h : readAction kind w c p = some (.timed (.train width count period))) : width ≤ period := by
  unfold readAction at h
  split at h
  case h_1 => split at h <;> simp at h
  case h_5 =>
    split at h
    · cases h
    · simp only [Option.some.injEq, OutAction.timed.injEq, Timed.train.injEq] at h
      omega
  all_goals simp at h

/-- A TRAIN read from an OUTPUT_ACTION is no wider than its period (R80). -/
theorem readOutputAction_train {s : State} {payload : List Byte} {l : LineId} {width count period : Nat}
    (h : readOutputAction s payload = some (l, .timed (.train width count period))) : width ≤ period := by
  unfold readOutputAction at h
  split at h
  · simp only [Option.bind_eq_bind, Option.bind_eq_some_iff, Option.some.injEq, Prod.mk.injEq] at h
    obtain ⟨_, _, act, hact, _, rfl⟩ := h
    exact readAction_train hact
  · cases h

/-- The rest of a TRAIN, from a pulse in ACTIVE: it ends with the last pulse, `k` periods after the end of this
one. -/
theorem follow_trainEvents {l : LineId} {width count period : Nat} (hp : width ≤ period) (k : Nat) :
    ∀ (s : State) (due : Nat), s.phase = .running → s.now ≤ due → (s.line l).waiting = none →
      (s.line l).running = some ⟨.train width count period, .active, k + 1, due⟩ →
      ∃ t, follow (trainEvents l k) s = some t ∧ t.now = due + k * period * 10 ∧
        t.lines = s.lines.set l { s.line l with running := none, lastPulseEnd := some t.now } := by
  induction k with
  | zero =>
    intro s due hs hn hw hr
    have ended : exec (.pulseEnd l) s = .next ((s.runTo due).setLine l
        { s.line l with running := none, lastPulseEnd := some (s.runTo due).now }) := by
      refine congrArg Host.Outcome.next ((whenRunning_running _ hs).trans ?_)
      rw [endPulse_active hr rfl, Line.endPulse_last (Nat.le_refl 1) hw]
    refine ⟨_, follow_cons ended, ?_, rfl⟩
    change (s.runTo due).now = _
    rw [State.runTo_now]
    omega
  | succ k ih =>
    intro s due hs hn hw hr
    have begins : period - width + width = period := Nat.sub_add_cancel hp
    let gap : Running := ⟨.train width count period, .gap, k + 1, due + (period - width) * 10⟩
    let u := (s.runTo due).setLine l { s.line l with running := some gap, lastPulseEnd := some (s.runTo due).now }
    have ended : exec (.pulseEnd l) s = .next u := by
      refine congrArg Host.Outcome.next ((whenRunning_running _ hs).trans ?_)
      rw [endPulse_active hr rfl, Line.endPulse_more (by simp)]
      rfl
    have now_u : u.now = due := (State.runTo_now _ due).trans (Nat.max_eq_right hn)
    have line_u : u.line l = { s.line l with running := some gap, lastPulseEnd := some (s.runTo due).now } := by
      simp [u]
    let v := (u.runTo gap.due).setLine l { u.line l with
      running := some ⟨.train width count period, .active, k + 1, gap.due + width * 10⟩ }
    have resumed : exec (.gapEnd l) u = .next v := by
      refine congrArg Host.Outcome.next ((whenRunning_running (s := u) _ hs).trans ?_)
      rw [endGap_gap (run := gap) (by rw [line_u]) rfl]
      rfl
    have now_v : v.now = gap.due :=
      (State.runTo_now _ gap.due).trans (Nat.max_eq_right (by rw [now_u]; exact Nat.le_add_right _ _))
    have line_v : v.line l = { u.line l with
        running := some ⟨.train width count period, .active, k + 1, gap.due + width * 10⟩ } := by simp [v]
    obtain ⟨t, ht, now_t, lines_t⟩ := ih v (gap.due + width * 10) hs (by rw [now_v]; exact Nat.le_add_right _ _)
      (by rw [line_v, line_u]; exact hw) (by rw [line_v])
    refine ⟨t, ?_, ?_, ?_⟩
    · rw [trainEvents, follow_cons ended, follow_cons resumed, ht]
    · rw [now_t]
      simp only [gap]
      rw [Nat.succ_mul]
      omega
    · rw [lines_t, line_v, line_u]
      simp [v, u, State.setLine]

end Sys2Proof.Machine

namespace Sys2Proof.Proofs

open Sys2Proof.Machine

/-- Settles O28: the equation of each phase's end. -/
theorem phasesEndAtTheirMoments : Obligations.PhasesEndAtTheirMoments := by
  intro s l run hs hr width gap at_
  have carried (f : State → State) : whenRunning f s = f s := whenRunning_running f hs
  refine ⟨fun hp => ?lead, fun hp => ?gap, fun hp more => ?more, fun hp last hw => ?last,
    fun act level hp last hw hact => ?level, fun t hp last hw => ?timed⟩
  case lead =>
    refine congrArg Host.Outcome.next ((carried _).trans ((endLead_lead hr hp).trans ?_))
    cases ha : run.action <;> simp [ha, width, Timed.width] <;> rfl
  case gap =>
    refine congrArg Host.Outcome.next ((carried _).trans ((endGap_gap hr hp).trans ?_))
    cases ha : run.action <;> simp [ha, width, Timed.width] <;> rfl
  case more =>
    refine congrArg Host.Outcome.next ((carried _).trans ((endPulse_active hr hp).trans ?_))
    rw [Line.endPulse_more more]
    cases ha : run.action <;> simp [ha, gap, Timed.gap] <;> rfl
  case last =>
    refine congrArg Host.Outcome.next ((carried _).trans ((endPulse_active hr hp).trans ?_))
    rw [Line.endPulse_last last hw]
    rfl
  case level =>
    refine congrArg Host.Outcome.next ((carried _).trans ((endPulse_active hr hp).trans ?_))
    obtain ⟨taken, _⟩ := takeFree_level (x := { s.line l with
      running := none
      waiting := none
      lastPulseEnd := some at_.now }) at_.now hact
    rw [Line.endPulse_takes last hw, taken]
    rfl
  case timed =>
    refine congrArg Host.Outcome.next ((carried _).trans ((endPulse_active hr hp).trans ?_))
    rw [Line.endPulse_takes last hw, Line.takeFree, Line.start_lead (e := at_.now) rfl (Nat.lt_add_of_pos_right (by decide))]
    cases t <;> rfl

/-- Settles O29: the free line takes the TRAIN in ACTIVE, and its events follow by induction over the pulses. -/
theorem trainLastsCountPeriodsAndAWidth : Obligations.TrainLastsCountPeriodsAndAWidth := by
  intro s r rest l width k period h ha hop hl hr hs free hw late
  have done := outputAction_answers h ha hop hl hr hs
  rw [takeAction_free free, Line.takeFree, Line.start_active late] at done
  let taken : Line := { s.line l with running := some ⟨.train width (k + 2) period, .active, k + 2, s.now + width * 10⟩ }
  let u : State := (s.setLine l taken).replied r rest .ok [1#8]
  have done : exec .outputAction s = .next u := done
  have line_u : u.line l = taken := by simp [u, State.line, State.replied, State.setLine]
  obtain ⟨t, ht, now_t, lines_t⟩ := follow_trainEvents (readOutputAction_train hr) (k + 1) u (s.now + width * 10)
    h.running (Nat.le_add_right _ _) (by rw [line_u]; exact hw) (by rw [line_u])
  refine ⟨t, (follow_cons done).trans ht, ?_, ?_⟩
  · rw [now_t]
    omega
  · rw [lines_t, line_u, ← free]
    simp [u, taken, State.replied, State.setLine]

end Sys2Proof.Proofs
end

section
/-! SUPPORT and the settling of O6, O7 and O8. What the line filters pass, drop and reject, by the recursion of each
filter; the bytes of a Timebase count; the equation of a SYNC edge. -/

namespace Sys2Proof.Machine

/-! ### The level of a line, and its filters -/

@[simp] theorem Level.flip_flip (x : Level) : x.flip.flip = x := by cases x <;> rfl

theorem Level.flip_ne (x : Level) : x ≠ x.flip := by cases x <;> decide

section
variable {f t m r : Nat} {level : Level} {w rest : List Nat}

/-- Before its first listed change a line shows the level it had. -/
theorem lineLevel_before (h : ∀ m ∈ w, t < m) : lineLevel t level w = level := by
  cases w with
  | nil => rfl
  | cons m rest => simp [lineLevel, Nat.not_le.mpr (h m (by simp))]

/-- A departure and its return, both behind, leave no mark. -/
theorem lineLevel_returned (hm : m ≤ t) (hr : r ≤ t) : lineLevel t level (m :: r :: rest) = lineLevel t level rest := by
  simp [lineLevel, hm, hr]

/-- From a departure up to the return the line shows the other level. -/
theorem lineLevel_departed (hm : m ≤ t) (h : ∀ r ∈ rest, t < r) : lineLevel t level (m :: rest) = level.flip := by
  rw [lineLevel, if_pos hm, lineLevel_before h]

theorem lt_of_pairwise_cons (h : (m :: w).Pairwise (· < ·)) : ∀ r ∈ w, m < r := (List.pairwise_cons.mp h).1

/-- A departure that has returned shows the old level again at the moment of its return. -/
theorem lineLevel_at_return (h : (m :: r :: rest).Pairwise (· < ·)) : lineLevel r level (m :: r :: rest) = level := by
  rw [lineLevel_returned (Nat.le_of_lt (lt_of_pairwise_cons h r (by simp))) (Nat.le_refl r)]
  exact lineLevel_before (lt_of_pairwise_cons h.of_cons)

theorem ends_of_returned (h : (m :: r :: rest).Pairwise (· < ·)) (hr : r < m + f) :
    ∀ m' ∈ [m, r], ∃ t, t ≤ r ∧ m' ≤ t ∧ t < m' + max f 1 ∧ lineLevel t level (m :: r :: rest) = level := by
  have mr : m < r := lt_of_pairwise_cons h r (by simp)
  intro m' hm'
  simp only [List.mem_cons, List.not_mem_nil, or_false] at hm'
  refine ⟨r, Nat.le_refl r, ?_, ?_, lineLevel_at_return h⟩
  · rcases hm' with rfl | rfl <;> omega
  · rcases hm' with rfl | rfl <;> omega

/-- What an axis or SYNC filter passes (R2, R122), by the departures that it drops first. -/
theorem nextHeld_some (f : Nat) (level : Level) (w : List Nat) (h : w.Pairwise (· < ·)) {c : LineChange}
    (hc : nextHeld f w = some c) :
    ∃ front m, w = front ++ m :: c.left ∧ c.time = m + f ∧
      lineLevel m level w = level.flip ∧ (∀ t, m ≤ t → t < m + f → lineLevel t level w = level.flip) ∧
      (∀ m' ∈ front, ∃ t, t < m ∧ m' ≤ t ∧ t < m' + max f 1 ∧ lineLevel t level w = level) := by
  induction w using nextHeld.induct f with
  | case1 => simp [nextHeld] at hc
  | case2 m =>
    cases hc
    exact ⟨[], m, rfl, rfl, lineLevel_departed (Nat.le_refl m) (by simp),
      fun t ht _ => lineLevel_departed ht (by simp), by simp⟩
  | case3 m r rest hr ih =>
    rw [nextHeld, if_pos hr] at hc
    obtain ⟨front, m₂, rfl, time, first, holds, before⟩ := ih h.of_cons.of_cons hc
    have mr : m < r := lt_of_pairwise_cons h r (by simp)
    have later : ∀ x ∈ front ++ m₂ :: c.left, r < x := lt_of_pairwise_cons h.of_cons
    have r₂ : r < m₂ := later m₂ (by simp)
    refine ⟨m :: r :: front, m₂, rfl, time, ?_, ?_, ?_⟩
    · rw [lineLevel_returned (by omega) (by omega), first]
    · intro t ht held
      rw [lineLevel_returned (by omega) (by omega), holds t ht held]
    · intro m' hm'
      have split : m' ∈ [m, r] ∨ m' ∈ front := List.mem_append.mp hm'
      rcases split with dropped | earlier
      · obtain ⟨t, ht, rest⟩ := ends_of_returned (level := level) h hr m' dropped
        exact ⟨t, by omega, rest⟩
      · obtain ⟨t, ht, lower, upper, back⟩ := before m' earlier
        have : r < m' := later m' (by simp [earlier])
        exact ⟨t, ht, lower, upper, by rw [lineLevel_returned (by omega) (by omega), back]⟩
  | case4 m r rest hr =>
    rw [nextHeld, if_neg hr] at hc
    cases hc
    have later : ∀ x ∈ r :: rest, m < x ∧ m + f ≤ x := by
      intro x hx
      have := lt_of_pairwise_cons h x hx
      rcases List.mem_cons.mp hx with rfl | hx
      · omega
      · have := lt_of_pairwise_cons h.of_cons x hx
        omega
    refine ⟨[], m, rfl, rfl, lineLevel_departed (Nat.le_refl m) fun x hx => (later x hx).1, fun t ht held => ?_, by simp⟩
    refine lineLevel_departed ht fun x hx => ?_
    have := later x hx
    omega

/-- A filter that passes nothing has seen every departure end (R2, R122). -/
theorem nextHeld_none (f : Nat) (level : Level) (w : List Nat) (h : w.Pairwise (· < ·)) (hc : nextHeld f w = none) :
    ∀ m' ∈ w, ∃ t, m' ≤ t ∧ t < m' + max f 1 ∧ lineLevel t level w = level := by
  induction w using nextHeld.induct f with
  | case1 => simp
  | case2 m => simp [nextHeld] at hc
  | case3 m r rest hr ih =>
    rw [nextHeld, if_pos hr] at hc
    have mr : m < r := lt_of_pairwise_cons h r (by simp)
    intro m' hm'
    have split : m' ∈ [m, r] ∨ m' ∈ rest := List.mem_append.mp hm'
    rcases split with dropped | later
    · obtain ⟨t, _, rest⟩ := ends_of_returned (level := level) h hr m' dropped
      exact ⟨t, rest⟩
    · obtain ⟨t, lower, upper, back⟩ := ih h.of_cons.of_cons hc m' later
      have : r < m' := lt_of_pairwise_cons h.of_cons m' later
      exact ⟨t, lower, upper, by rw [lineLevel_returned (by omega) (by omega), back]⟩
  | case4 m r rest hr => simp [nextHeld, hr] at hc

/-- The trigger filter passes the first departure just if it is held (R98). -/
theorem heldEdge_iff (h : (m :: w).Pairwise (· < ·)) (c : LineChange) :
    heldEdge f (m :: w) = some c ↔
      (∀ t level, m ≤ t → t < m + f → lineLevel t level (m :: w) = level.flip) ∧ c = ⟨m + f, w⟩ := by
  cases w with
  | nil =>
    rw [heldEdge, Option.some.injEq]
    exact ⟨fun e => ⟨fun t level ht _ => lineLevel_departed ht (by simp), e.symm⟩, fun ⟨_, e⟩ => e.symm⟩
  | cons r rest =>
    have mr : m < r := lt_of_pairwise_cons h r (by simp)
    have later : ∀ x ∈ rest, r < x := lt_of_pairwise_cons h.of_cons
    by_cases hr : r < m + f
    · rw [heldEdge, if_pos hr]
      refine ⟨fun e => (nomatch e), fun ⟨holds, _⟩ => ?_⟩
      have back := holds r .low (by omega) hr
      rw [lineLevel_at_return h] at back
      cases back
    · rw [heldEdge, if_neg hr, Option.some.injEq]
      refine ⟨fun e => ⟨fun t level ht held => lineLevel_departed ht fun x hx => ?_, e.symm⟩, fun ⟨_, e⟩ => e.symm⟩
      rcases List.mem_cons.mp hx with rfl | hx
      · omega
      · have := later x hx
        omega

theorem rejectedReturn_iff (c : LineChange) :
    rejectedReturn f (m :: w) = some c ↔ f ≠ 0 ∧ ∃ r, w = r :: c.left ∧ c.time = r ∧ r ≤ m + f := by
  cases w with
  | nil => simp [rejectedReturn]
  | cons r rest =>
    rw [rejectedReturn]
    split
    · next h =>
      rw [Option.some.injEq]
      refine ⟨fun e => ⟨by omega, r, ?_⟩, fun ⟨_, r', hw, time, _⟩ => ?_⟩
      · subst e
        exact ⟨rfl, rfl, h.2⟩
      · obtain ⟨time', left⟩ := c
        simp only [List.cons.injEq] at hw time
        obtain ⟨rfl, rfl⟩ := hw
        rw [time]
    · next h =>
      refine ⟨fun e => (nomatch e), fun ⟨hf, r', hw, _, hr⟩ => absurd ⟨Nat.pos_of_ne_zero hf, ?_⟩ h⟩
      simp only [List.cons.injEq] at hw
      omega

/-- A first departure is held or returns, and may do either just where the return meets the elapsing (R115). -/
theorem heldEdge_or_rejectedReturn (f : Nat) (h : (m :: w).Pairwise (· < ·)) :
    (heldEdge f (m :: w) ≠ none ∨ rejectedReturn f (m :: w) ≠ none) ∧
      (heldEdge f (m :: w) ≠ none ∧ rejectedReturn f (m :: w) ≠ none ↔ f ≠ 0 ∧ w.head? = some (m + f)) := by
  cases w with
  | nil => simp [heldEdge, rejectedReturn]
  | cons r rest =>
    have mr : m < r := lt_of_pairwise_cons h r (by simp)
    by_cases hr : r < m + f
    · have rejects : 0 < f ∧ r ≤ m + f := by omega
      have notAt : ¬ r = m + f := by omega
      simp [heldEdge, rejectedReturn, hr, rejects, notAt]
    · have meets : (0 < f ∧ r ≤ m + f) ↔ f ≠ 0 ∧ r = m + f := by omega
      simp [heldEdge, rejectedReturn, hr, meets]

/-- The level of a line, by the number of its changes behind (R103). -/
theorem lineLevel_eq (t : Nat) (level : Level) (w : List Nat) (h : w.Pairwise (· < ·)) :
    lineLevel t level w = if (w.countP fun m => m ≤ t) % 2 = 0 then level else level.flip := by
  induction w generalizing level with
  | nil => rfl
  | cons m rest ih =>
    by_cases hm : m ≤ t
    · rw [lineLevel, if_pos hm, ih _ h.of_cons, List.countP_cons_of_pos (by simpa using hm)]
      rcases Nat.mod_two_eq_zero_or_one (rest.countP fun m => m ≤ t) with even | odd
      · have odd : ((rest.countP fun m => decide (m ≤ t)) + 1) % 2 = 1 := by omega
        simp [even, odd]
      · have even : ((rest.countP fun m => decide (m ≤ t)) + 1) % 2 = 0 := by omega
        simp [even, odd]
    · have none : ((m :: rest).countP fun m => m ≤ t) = 0 := by
        refine List.countP_eq_zero.mpr fun x hx => ?_
        rcases List.mem_cons.mp hx with rfl | hx
        · simpa using hm
        · have := lt_of_pairwise_cons h x hx
          simp only [decide_eq_true_eq]
          omega
      rw [none]
      simp [lineLevel, hm]

/-- The changes still to come (R103). -/
theorem changesAfter_eq (t : Nat) (w : List Nat) (h : w.Pairwise (· < ·)) :
    changesAfter t w = w.filter fun m => t < m := by
  induction w with
  | nil => rfl
  | cons m rest ih =>
    by_cases hm : m ≤ t
    · rw [changesAfter, List.dropWhile_cons_of_pos (by simpa using hm), List.filter_cons_of_neg (by simpa using hm)]
      exact ih h.of_cons
    · have later : ∀ x ∈ m :: rest, t < x := by
        intro x hx
        rcases List.mem_cons.mp hx with rfl | hx
        · omega
        · have := lt_of_pairwise_cons h x hx
          omega
      rw [changesAfter, List.dropWhile_cons_of_neg (by simpa using hm)]
      exact (List.filter_eq_self.mpr (by simpa using later)).symm

/-- Departures that a filter has dropped can be forgotten. -/
theorem nextHeld_dropReturned (f t : Nat) (w : List Nat) : nextHeld f (dropReturned f t w) = nextHeld f w := by
  induction w using dropReturned.induct f t with
  | case1 m r rest h ih => rw [dropReturned, if_pos h, ih, nextHeld, if_pos h.1]
  | case2 m r rest h => rw [dropReturned, if_neg h]
  | case3 m => rfl
  | case4 => rfl

theorem lineLevel_dropReturned (f t : Nat) (w : List Nat) (h : w.Pairwise (· < ·)) {u : Nat} (hu : t ≤ u) :
    lineLevel u level (dropReturned f t w) = lineLevel u level w := by
  induction w using dropReturned.induct f t with
  | case1 m r rest hr ih =>
    have mr : m < r := lt_of_pairwise_cons h r (by simp)
    rw [dropReturned, if_pos hr, ih h.of_cons.of_cons, lineLevel_returned (by omega) (by omega)]
  | case2 m r rest hr => rw [dropReturned, if_neg hr]
  | case3 m => rfl
  | case4 => rfl

end

section
variable {f : Nat} {d : Decoder} {w : AxisWires} {x y : LineChange}

theorem nextPair_left (ha : nextHeld f w.a = some x) (hb : ∀ y, nextHeld f w.b = some y → x.time < y.time) :
    nextPair f d w = some ⟨x.time, d.a.flip, d.b, { w with a := x.left }⟩ := by
  unfold nextPair
  cases h : nextHeld f w.b with
  | none => simp only [ha]
  | some y => simp only [ha, hb y h, if_true]

theorem nextPair_right (ha : ∀ x, nextHeld f w.a = some x → y.time < x.time) (hb : nextHeld f w.b = some y) :
    nextPair f d w = some ⟨y.time, d.a, d.b.flip, { w with b := y.left }⟩ := by
  unfold nextPair
  cases h : nextHeld f w.a with
  | none => simp only [hb]
  | some x => simp only [hb, ha x h, Nat.lt_asymm (ha x h), if_true, if_false]

theorem nextPair_both (ha : nextHeld f w.a = some x) (hb : nextHeld f w.b = some y) (same : x.time = y.time) :
    nextPair f d w = some ⟨x.time, d.a.flip, d.b.flip, { w with a := x.left, b := y.left }⟩ := by
  simp only [nextPair, ha, hb, same, Nat.lt_irrefl, if_false]

end

/-! ### Bytes of a Timebase count (R192) -/

theorem toNat_append_eq {n k : Nat} (x : BitVec n) (y : BitVec k) : (x ++ y).toNat = x.toNat * 2 ^ k + y.toNat := by
  rw [BitVec.toNat_append, ← Nat.shiftLeft_add_eq_or_of_lt y.isLt, Nat.shiftLeft_eq]

theorem ticks_of_bytes (b0 b1 b2 b3 b4 b5 : Byte) :
    BitVec.ofNat 48 (numBE [b0, b1, b2, b3, b4, b5]) = b0 ++ b1 ++ b2 ++ b3 ++ b4 ++ b5 := by
  refine BitVec.eq_of_toNat_eq ?_
  simp only [BitVec.toNat_ofNat, toNat_append_eq, numBE, List.foldl_cons, List.foldl_nil]
  omega

theorem readEdge_code (edge : Edge) : readEdge edge.code = some edge := by cases edge <;> rfl

/-! ### A SYNC edge -/

section
variable {s : State} {arm : SyncArm}

theorem Level.edge_flip (x : Level) : Level.edge x.flip = (match x with | .low => .rise | .high => .fall) := by
  cases x <;> rfl

theorem takeSyncEdge_loads (ha : s.timebase.arm = some arm) (he : arm.edge = Level.edge s.timebase.syncLevel.flip) :
    takeSyncEdge s = { s with
      timebase := ⟨arm.value, none, s.timebase.syncLevel.flip⟩
      queue := s.queue.offer s.queue.enables.timeSync ⟨.timeSync s.timebase.count, arm.value, []⟩ } := by
  unfold takeSyncEdge
  simp only [ha, he, if_true, syncLoad_eq]
  rfl

theorem takeSyncEdge_turns (h : ∀ arm, s.timebase.arm = some arm → arm.edge ≠ Level.edge s.timebase.syncLevel.flip) :
    takeSyncEdge s = { s with timebase := { s.timebase with syncLevel := s.timebase.syncLevel.flip } } := by
  unfold takeSyncEdge
  cases ha : s.timebase.arm with
  | none => rfl
  | some arm => simp only [h arm ha, if_false]; rfl

end

end Sys2Proof.Machine

namespace Sys2Proof.Proofs

open Sys2Proof.Machine

/-- Settles O6: each request passes the dispatch checks; a SYNC edge has the two cases of its arm. -/
theorem timeRequestsAndSyncEdgeLoadTheCount : Obligations.TimeRequestsAndSyncEdgeLoadTheCount := by
  refine ⟨fun s r rest h ha => ⟨?set, ?arm, ?disarm, ?noEntry, ?read⟩, fun s hs => ⟨fun c hc => ?edge, fun hc => ?still⟩⟩
  case set =>
    intro b0 b1 b2 b3 b4 b5 hop hp
    have length : RequestOp.timeSet.lengthOk r.payload = true := by rw [hp]; rfl
    have operands : readTimeSet (s.took rest) r.payload = some (b0 ++ b1 ++ b2 ++ b3 ++ b4 ++ b5) := by
      rw [hp, readTimeSet, ticks_of_bytes]
    exact congrArg Host.Outcome.next (dispatch_answers (op := .timeSet) (carry := carryTimeSet)
      (t := { s with timebase := { s.timebase with count := b0 ++ b1 ++ b2 ++ b3 ++ b4 ++ b5 } })
      h ha hop rfl length operands rfl)
  case arm =>
    intro b0 b1 b2 b3 b4 b5 edge hop hp
    have length : RequestOp.syncArm.lengthOk r.payload = true := by rw [hp]; rfl
    have operands : readSyncArm (s.took rest) r.payload = some ⟨b0 ++ b1 ++ b2 ++ b3 ++ b4 ++ b5, edge⟩ := by
      rw [hp, readSyncArm, ticks_of_bytes, readEdge_code]
      rfl
    exact congrArg Host.Outcome.next (dispatch_answers (op := .syncArm) (carry := carrySyncArm)
      (t := { s with timebase := { s.timebase with arm := some ⟨b0 ++ b1 ++ b2 ++ b3 ++ b4 ++ b5, edge⟩ } })
      h ha hop rfl length operands rfl)
  case disarm =>
    intro hop hp armed
    have length : RequestOp.syncDisarm.lengthOk r.payload = true := by rw [hp]; rfl
    have isSome : (s.took rest).timebase.arm.isSome = true := Option.isSome_iff_ne_none.mpr armed
    exact congrArg Host.Outcome.next (dispatch_answers (op := .syncDisarm) (carry := carrySyncDisarm)
      (read := readNothing) (t := { s with timebase := { s.timebase with arm := none } })
      h ha hop rfl length rfl (by simp only [carrySyncDisarm, isSome, if_true]; rfl))
  case noEntry =>
    intro hop hp idle
    have length : RequestOp.syncDisarm.lengthOk r.payload = true := by rw [hp]; rfl
    have none : (s.took rest).timebase.arm = none := idle
    exact congrArg Host.Outcome.next (dispatch_status (op := .syncDisarm) (carry := carrySyncDisarm)
      (read := readNothing) h ha hop rfl length rfl (by simp only [carrySyncDisarm, none]; rfl))
  case read =>
    intro hop hp
    have length : RequestOp.timeRead.lengthOk r.payload = true := by rw [hp]; rfl
    exact congrArg Host.Outcome.next (dispatch_answers (op := .timeRead) (carry := carryTimeRead)
      (read := readNothing) (t := s) h ha hop rfl length rfl rfl)
  case edge =>
    intro u
    have taken : exec .syncEdge s = .next (takeSyncEdge u) := by
      refine congrArg Host.Outcome.next ((whenRunning_running _ hs).trans ?_)
      simp only [syncEdge, Config.syncFilter, hc]
      rfl
    refine ⟨fun arm harm he => ?_, fun other => ?_⟩
    · rw [taken, takeSyncEdge_loads (s := u) (arm := arm) harm (by rw [Level.edge_flip]; exact he)]
      rfl
    · rw [taken, takeSyncEdge_turns fun arm harm => by rw [Level.edge_flip]; exact other arm harm]
      rfl
  case still =>
    refine congrArg Host.Outcome.next ((whenRunning_running _ hs).trans ?_)
    simp only [syncEdge, Config.syncFilter, hc]

/-- Settles O7: each filter by its recursion over the line's changes. -/
theorem lineFiltersPassLevelsThatHold : Obligations.LineFiltersPassLevelsThatHold := by
  refine ⟨fun f level w h => ⟨fun c hc => nextHeld_some f level w h hc, nextHeld_none f level w h⟩,
    fun f m w h => ⟨heldEdge_iff h, rejectedReturn_iff, (heldEdge_or_rejectedReturn f h).1,
      (heldEdge_or_rejectedReturn f h).2, rfl, rfl⟩,
    fun t level w h => ⟨lineLevel_eq t level w h, changesAfter_eq t w h,
      fun f => ⟨nextHeld_dropReturned f t w, fun u hu => lineLevel_dropReturned f t w h hu⟩⟩,
    fun s n => ?pair⟩
  case pair =>
    intro f d w
    refine ⟨rfl, fun ha hb => ?_, fun x ha hb => ?_, fun y hb ha => ?_, fun x y ha hb same => ?_⟩
    · simp only [State.nextPair, nextPair, f, w, ha, hb]
    · exact nextPair_left (d := d) (w := w) ha hb
    · exact nextPair_right (d := d) (w := w) ha hb
    · exact nextPair_both (d := d) (w := w) ha hb same

/-- Settles O8: the tables by their sixteen rows each; the other changes by the cases of the event. -/
theorem countTableIsFollowedAndOtherLevelsAreTaken : Obligations.CountTableIsFollowedAndOtherLevelsAreTaken := by
  refine ⟨⟨?_, ?_, ?_, ?_⟩, fun s n hs => ⟨fun c hc none other => ?pair, fun c hc high => ?fall⟩⟩
  case pair =>
    refine congrArg Host.Outcome.next ((whenRunning_running _ hs).trans ?_)
    have noError : (s.axis n).errs c = false := by
      unfold Axis.errs
      rcases other with step | sameA | sameB
      · simp [isQuadError, step]
      · cases hm : (s.axis n).config.countMode <;> simp [isQuadError, sameA]
      · cases hm : (s.axis n).config.countMode <;> simp [isQuadError, sameB]
    have noCount : (s.axis n).counts c = Option.none := none
    simp only [decoderChange, pairChange, hc, noCount, noError]
    rfl
  case fall =>
    refine congrArg Host.Outcome.next ((whenRunning_running _ hs).trans ?_)
    simp only [decoderChange, indexFall, hc, high, State.takeIndex]
    rfl
  all_goals
    intro a b a' b'
    cases a <;> cases b <;> cases a' <;> cases b' <;> rfl

end Sys2Proof.Proofs
end

section
/-! SUPPORT and the settling of O36, O38, O40, O44 and O47. The requests of the Record Queue and of the link, the two
timers, the transmitter, and a retry answered from the cache. -/

namespace Sys2Proof.Machine

/-! ### CAPTURE_NOW and RECORD_CONFIG -/

theorem readAxisSet_of {b : Byte} (h0 : b ≠ 0#8) (h : b.toNat < 16) : readAxisSet b = some (BitVec.ofNat 4 b.toNat) := by
  have pos : b.toNat ≠ 0 := fun e => h0 (BitVec.eq_of_toNat_eq e)
  have inRange : ¬ (b.toNat = 0 ∨ 15 < b.toNat) := by omega
  rw [readAxisSet, if_neg inRange]

theorem posWords_ofNat (s : State) (b : Byte) :
    posWords s.axes (BitVec.ofNat 4 b.toNat) =
      (([0, 1, 2, 3] : List AxisId).filter fun n => b.getLsbD n.val).map fun n => (s.axis n).posWord n := by
  have same : ∀ n : AxisId, (BitVec.ofNat 4 b.toNat).getLsbD n.val = b.getLsbD n.val := by
    intro n
    rw [BitVec.getLsbD_ofNat, decide_eq_true n.isLt, Bool.true_and]
    rfl
  unfold posWords
  simp only [same]
  rfl

theorem readFlag_none {b : Byte} (h : 1 < b.toNat) : readFlag b = none := by
  unfold readFlag
  split
  · simp_all
  · split
    · simp_all
    · rfl

theorem readRecordConfig_flags (s : State) (e : KindEnables) :
    readRecordConfig s [flagByte e.axis, flagByte e.schedule, flagByte e.output, flagByte e.timeSync] = some e := by
  simp only [readRecordConfig, readFlag_flagByte]
  rfl

theorem readRecordConfig_none (s : State) {a b c d : Byte}
    (h : 1 < a.toNat ∨ 1 < b.toNat ∨ 1 < c.toNat ∨ 1 < d.toNat) : readRecordConfig s [a, b, c, d] = none := by
  unfold readRecordConfig
  rcases h with h | h | h | h <;> simp [readFlag_none h]

theorem RecordQueue.receive_admits {q : RecordQueue} (i : Item) (h : q.records.length < 256) :
    q.receive i = { q with
      records := q.records ++ [⟨q.next, i⟩], next := q.next + 1#32, totalAdmitted := q.totalAdmitted + 1#32 } :=
  if_pos h

theorem RecordQueue.receive_loses {q : RecordQueue} (i : Item) (h : 256 ≤ q.records.length) :
    q.receive i = { q with
      pendingLoss := min (q.pendingLoss + 1) 4294967295, totalLost := min (q.totalLost + 1) 4294967295 } :=
  if_neg (Nat.not_lt.mpr h)

/-! ### The timers -/

theorem ackTimeout_eq {s : State} {e : Nat} (h : s.delivery.ackTimer = some e) :
    ackTimeout s = { s.runTo e with
      delivery := { s.delivery with
        sendPoint := s.queue.oldest, ackTimer := none, timeouts := s.delivery.timeouts + 1
        stalled := if 8 ≤ s.delivery.timeouts + 1 then true else s.delivery.stalled } } := by
  have stalls : (s.delivery.stalled || decide (Config.stallCount ≤ s.delivery.timeouts + 1)) =
      if 8 ≤ s.delivery.timeouts + 1 then true else s.delivery.stalled := by
    by_cases h8 : 8 ≤ s.delivery.timeouts + 1 <;> simp [Config.stallCount, h8]
  unfold ackTimeout
  simp only [h, stalls]
  rfl

/-- A session's end (R182). -/
theorem endSession_eq (s : State) :
    endSession s = { s with
      link := { s.link with
        session := none, keepalive := none, waiting := [], cache := []
        hold := if s.link.hold = .detach then .none else s.link.hold }
      delivery := { s.delivery with
        sendPoint := s.queue.oldest, highMark := s.queue.oldest, ackTimer := none, timeouts := 0
        stalled := false } } := by
  unfold endSession
  cases h : s.link.hold <;> rfl

theorem keepaliveExpiry_eq {s : State} {e : Nat} {p : Session} (hk : s.link.keepalive = some e)
    (hp : s.link.session = some p) : keepaliveExpiry s = applyLoss p.loss (endSession (s.runTo e)) := by
  simp only [keepaliveExpiry, hk, hp]

/-- SAFE entry, in one equation for a unit SAFE already or not (R93). -/
theorem enterSafe_cases (s : State) :
    enterSafe s = if s.safe then s else { s with
      lines := s.lines.map fun x => { x with
        running := none, waiting := none
        lastPulseEnd := match x.running with
          | some ⟨_, .active, _, _⟩ => some s.now
          | _ => x.lastPulseEnd }
      safe := true
      queue := s.queue.offer s.queue.enables.output
        ⟨.safeEntered (Config.allLines.countP fun l => (s.line l).waiting ≠ none)
          (Config.allLines.countP fun l => (s.line l).running ≠ none), s.timebase.count, []⟩ } := by
  cases h : s.safe with
  | true => exact enterSafe_safe h
  | false =>
    rw [enterSafe_enters h, show Line.stop s.now = _ from funext (Line.stop_eq s.now)]
    rfl

/-! ### The transmitter -/

theorem takeFrame_reply {s : State} {q : QueuedReply} {qs : List QueuedReply} (hf : s.link.transmitter = .free)
    (hr : s.link.replies = q :: qs) : takeFrame s = sendReply q qs s := by
  simp only [takeFrame, hf, hr]

theorem takeFrame_hello {s : State} {h : Hello} (hf : s.link.transmitter = .free) (hr : s.link.replies = [])
    (hh : s.link.hello = some h) :
    takeFrame s = startSending h.frame .nothing (s.setLink { s.link with hello := none }) := by
  simp only [takeFrame, hf, hr, hh]

theorem takeFrame_record {s : State} {x : Record} (hf : s.link.transmitter = .free) (hr : s.link.replies = [])
    (hh : s.link.hello = none) (ho : offered s = some x) :
    takeFrame s = startSending x.frame .nothing (handover s) := by
  simp only [takeFrame, hf, hr, hh, ho]

theorem takeFrame_none {s : State} (hf : s.link.transmitter = .free) (hr : s.link.replies = [])
    (hh : s.link.hello = none) (ho : offered s = none) : takeFrame s = s := by
  simp only [takeFrame, hf, hr, hh, ho]

theorem offered_detached {s : State} (h : s.link.session = none) : offered s = none := by
  simp [offered, offerStands, h]

theorem offered_eq {s : State} {x : Record} (hm : s.delivery.mode = .stream) (ha : Attached s)
    (hs : s.delivery.stalled = false) (hw : s.queue.distance s.delivery.sendPoint < s.delivery.window)
    (hn : s.delivery.sendPoint ≠ s.queue.next) (hx : s.queue.records[s.queue.distance s.delivery.sendPoint]? = some x) :
    offered s = some x := by
  have stands : offerStands s = true := by
    unfold Attached at ha
    simp [offerStands, hm, ha, hs, outstanding, hw, hn]
  rw [offered, if_pos stands]
  exact hx

/-! ### Link requests -/

theorem readLoss_code (loss : LossAction) : readLoss loss.code = some loss := by cases loss <;> rfl

theorem readBaud_code (b : Baud) : readBaud b.code = some b := by cases b <;> rfl

theorem readAttach_bytes (s : State) {k0 k1 : Byte} (loss : LossAction)
    (h : k0.toNat * 256 + k1.toNat = 0 ∨ (10 ≤ k0.toNat * 256 + k1.toNat ∧ k0.toNat * 256 + k1.toNat ≤ 60000)) :
    readAttach s [k0, k1, loss.code] = some ⟨k0.toNat * 256 + k1.toNat, loss⟩ := by
  simp only [readAttach, readLoss_code, numBE_pair, Option.bind_eq_bind, Option.bind_some, if_pos h]

/-- A request that passes every check, whatever its answer orders (R174, R175). -/
theorem dispatch_ordered {α : Type} {op : RequestOp} {read : State → List Byte → Option α}
    {carry : α → State → State × Answer} {s : State} {r : Request} {rest : List Request} {p : α}
    (h : Takes s r rest) (hop : r.op = op.code) (ha : op.whileDetached = true ∨ Attached s)
    (hl : op.lengthOk r.payload = true) (hr : read (s.took rest) r.payload = some p) :
    dispatch op read carry s = answerRequest r (carry p (s.took rest)) := by
  unfold dispatch
  rw [takeRequest_fresh h (by simp [hop])]
  have checked : carryChecked op read carry r (s.took rest) = carry p (s.took rest) := by
    have attached : (!op.whileDetached && (s.took rest).link.session.isNone) = false := by
      rcases ha with ha | ha
      · simp [ha]
      · obtain ⟨x, hx⟩ := Option.isSome_iff_exists.mp ha
        simp [State.took, hx]
    simp only [carryChecked, attached, hl, hr, Bool.not_true, Bool.false_eq_true, if_false]
  rw [checked]

/-- The replies of DETACH and RESTART are not stored (R184). -/
theorem answerRequest_unstored {r : Request} (hu : uncached r.op = true) (t : State) (status : Status)
    (closing : Closing) :
    answerRequest r (t, ⟨status, [], closing⟩) =
      { t with link := { t.link with replies := t.link.replies ++ [⟨replyTo r status [], closing⟩] } } := by
  unfold answerRequest storeReply queueReply
  simp only [hu, Bool.not_true, Bool.and_false, Bool.false_eq_true, if_false]
  rfl

/-- Every other reply is stored while the link is ATTACHED (R184). -/
theorem answerRequest_stored {r : Request} (hu : uncached r.op = false) (t : State) (status : Status)
    (closing : Closing) :
    answerRequest r (t, ⟨status, [], closing⟩) =
      { t with link := { t.link with
        replies := t.link.replies ++ [⟨replyTo r status [], closing⟩]
        cache := if t.link.session.isSome then cacheAfter r (replyTo r status []) t.link.cache
          else t.link.cache } } := by
  unfold answerRequest storeReply queueReply
  simp only [hu, Bool.not_false, Bool.and_true, State.setLink, remember, cacheAfter, Config.cacheCapacity]
  split <;> rfl

/-! ### Retries -/

/-- Every request operation is dispatched under its own code. -/
theorem exec_requestOf {c : Instr} {op : RequestOp} (h : requestOf c = some op) :
    ∃ (α : Type) (read : State → List Byte → Option α) (carry : α → State → State × Answer),
      ∀ s, exec c s = .next (dispatch op read carry s) := by
  cases c <;> cases h <;> exact ⟨_, _, _, fun _ => rfl⟩

section
variable {α : Type} {p : α → Bool} {e : α} {front back : List α}

theorem find?_append_cons (hf : ∀ x ∈ front, p x = false) (he : p e = true) :
    (front ++ e :: back).find? p = some e := by
  rw [List.find?_append, List.find?_eq_none.mpr (by simpa using hf), List.find?_cons_of_pos he]
  rfl

end

/-- With distinct tags, the entry with a tag stands alone (R182). -/
theorem tags_ne_of_nodup {front back : List CacheEntry} {e : CacheEntry}
    (h : ((front ++ e :: back).map CacheEntry.tag).Nodup) : ∀ x ∈ front ++ back, x.tag ≠ e.tag := by
  rw [List.map_append, List.map_cons, List.nodup_middle, ← List.map_append, List.nodup_cons] at h
  intro x hx he
  exact h.1 (he ▸ List.mem_map_of_mem hx)

theorem remember_middle {front back : List CacheEntry} {e : CacheEntry}
    (h : ((front ++ e :: back).map CacheEntry.tag).Nodup) (hl : (front ++ e :: back).length ≤ 8) :
    remember e (front ++ e :: back) = e :: (front ++ back) := by
  have others := tags_ne_of_nodup h
  have kept : (front ++ e :: back).filter (fun x => x.tag ≠ e.tag) = front ++ back := by
    rw [List.filter_append, List.filter_cons_of_neg (by simp), ← List.filter_append]
    exact List.filter_eq_self.mpr fun x hx => by simpa using others x hx
  unfold remember
  rw [kept, List.take_of_length_le]
  simp only [List.length_append, List.length_cons, Config.cacheCapacity] at hl ⊢
  omega

end Sys2Proof.Machine

namespace Sys2Proof.Proofs

open Sys2Proof.Machine

/-- Settles O36: the record is admitted or lost by the occupancy; the enables read back or do not. -/
theorem captureNowAdmitsOrLosesByTheQueue : Obligations.CaptureNowAdmitsOrLosesByTheQueue := by
  refine ⟨?capture, fun s r rest h ha hop => ⟨fun e hp => ?config, ?refused⟩⟩
  case capture =>
    intro s r rest b h ha hop hp h0 h16 item
    have length : RequestOp.captureNow.lengthOk r.payload = true := by rw [hp]; rfl
    have operands : readCaptureNow (s.took rest) r.payload = some (BitVec.ofNat 4 b.toNat) := by
      rw [hp]; exact readAxisSet_of h0 h16
    have produced : (s.took rest).produce ⟨.capture none .host 0, s.timebase.count,
        posWords s.axes (BitVec.ofNat 4 b.toNat)⟩ = { s with queue := s.queue.receive item }.took rest := by
      rw [posWords_ofNat]
      rfl
    refine ⟨fun room => ?_, fun full => ?_⟩
    · have admitted : s.queue.occupancy < Config.queueCapacity := room
      rw [← RecordQueue.receive_admits item room]
      exact congrArg Host.Outcome.next (dispatch_answers (op := .captureNow) (carry := carryCaptureNow)
        (t := { s with queue := s.queue.receive item }) h ha hop rfl length operands
        (Prod.ext produced (congrArg (Answer.of .ok) (if_pos admitted))))
    · have lost : ¬ s.queue.occupancy < Config.queueCapacity := Nat.not_lt.mpr full
      rw [← RecordQueue.receive_loses item full]
      exact congrArg Host.Outcome.next (dispatch_answers (op := .captureNow) (carry := carryCaptureNow)
        (t := { s with queue := s.queue.receive item }) h ha hop rfl length operands
        (Prod.ext produced (congrArg (Answer.of .ok) (if_neg lost))))
  case config =>
    have length : RequestOp.recordConfig.lengthOk r.payload = true := by rw [hp]; rfl
    have operands : readRecordConfig (s.took rest) r.payload = some e := by
      rw [hp]; exact readRecordConfig_flags _ e
    exact congrArg Host.Outcome.next (dispatch_answers (op := .recordConfig) (carry := carryRecordConfig)
      (t := { s with queue := { s.queue with enables := e } }) h ha hop rfl length operands rfl)
  case refused =>
    intro a b c d hp bad
    have length : RequestOp.recordConfig.lengthOk r.payload = true := by rw [hp]; rfl
    have operands : readRecordConfig (s.took rest) r.payload = none := by
      rw [hp]; exact readRecordConfig_none _ bad
    exact congrArg Host.Outcome.next (dispatch_badParam (op := .recordConfig) h hop (.inr ha) length operands rfl)

/-- Settles O38: each timer's expiry by its equation; the loss action by SAFE entry's. -/
theorem timersExpireWithTheirEffects : Obligations.TimersExpireWithTheirEffects := by
  refine ⟨fun s e hs he => ?ack, fun s e p hs hk hp => ?keepalive⟩
  case ack => exact congrArg Host.Outcome.next ((whenRunning_running _ hs).trans (ackTimeout_eq he))
  case keepalive =>
    intro ended safe
    have expired : exec .keepaliveExpiry s = .next (applyLoss p.loss ended) := by
      refine congrArg Host.Outcome.next ((whenRunning_running _ hs).trans ?_)
      rw [keepaliveExpiry_eq hk hp, endSession_eq]
      rfl
    have entered : enterSafe ended = safe := enterSafe_cases ended
    have scheds : safe.scheds = s.scheds := by
      obtain ⟨_, _, _, he⟩ := enterSafe_frame ended
      rw [← entered, he]
      rfl
    refine ⟨fun none => ?_, fun outputs => ?_, fun stop => ?_⟩
    · rw [expired, none]
      rfl
    · rw [expired, outputs]
      exact congrArg Host.Outcome.next entered
    · rw [expired, stop, ← scheds]
      exact congrArg (fun t => Host.Outcome.next (stopAll t)) entered

/-- Settles O40: the transmitter's cases by rank, and what the frame's reply ordered. -/
theorem transmitterTakesByRankAndIsFreed : Obligations.TransmitterTakesByRankAndIsFreed := by
  refine ⟨fun s hs hf => ⟨?reply, ?detach, ?hello, ?record, ?none⟩, fun s frame closing hs ht => ⟨?done, ?rate⟩⟩
  case reply =>
    intro q qs hr hc
    refine congrArg Host.Outcome.next ((whenRunning_running _ hs).trans ((takeFrame_reply hf hr).trans ?_))
    unfold sendReply
    cases hq : q.closing with
    | sessionEnd => exact absurd hq hc
    | nothing => rfl
    | rate b => rfl
    | warmReset => rfl
  case detach =>
    intro q qs hr hc
    refine congrArg Host.Outcome.next ((whenRunning_running _ hs).trans ((takeFrame_reply hf hr).trans ?_))
    unfold sendReply
    simp only [hc, endSession_eq]
    rfl
  case hello =>
    intro h hr hh
    exact congrArg Host.Outcome.next ((whenRunning_running _ hs).trans (takeFrame_hello hf hr hh))
  case record =>
    intro x hr hh hm ha hst hw hn hx
    exact congrArg Host.Outcome.next ((whenRunning_running _ hs).trans
      (takeFrame_record hf hr hh (offered_eq hm ha hst hw hn hx)))
  case none =>
    intro hr hh hd
    exact congrArg Host.Outcome.next ((whenRunning_running _ hs).trans
      (takeFrame_none hf hr hh (offered_detached hd)))
  case done =>
    intro hc
    refine congrArg Host.Outcome.next ((whenRunning_running _ hs).trans ?_)
    rcases hc with rfl | rfl <;> simp only [frameComplete, ht] <;> rfl
  case rate =>
    intro b hc
    subst hc
    refine congrArg Host.Outcome.next ((whenRunning_running _ hs).trans ?_)
    simp only [frameComplete, ht]
    rfl

/-- Settles O44: each request passes the dispatch checks, and is answered as its reply is stored or not. -/
theorem sessionAndLinkRequestsOrderTheirEffect : Obligations.SessionAndLinkRequestsOrderTheirEffect := by
  refine ⟨?attach, fun s r rest h => ⟨?detach, ?restart, ?config, ?stats⟩⟩
  case attach =>
    intro s r rest k0 k1 loss h hop hp keepalive range reply timer
    have length : RequestOp.attach.lengthOk r.payload = true := by rw [hp]; rfl
    have operands : readAttach (s.took rest) r.payload = some ⟨keepalive, loss⟩ := by
      rw [hp]; exact readAttach_bytes _ loss range
    refine ⟨fun detached => ?_, fun attached => ?_⟩
    · have opened : carryAttach ⟨keepalive, loss⟩ (s.took rest) =
          ({ s with link := { s.link with session := some ⟨keepalive, loss⟩, keepalive := timer } }.took rest,
            .of .ok reply) := by
        have isSome : (s.took rest).link.session.isSome = false := by simp [State.took, detached]
        simp only [carryAttach, isSome, Bool.false_eq_true, if_false]
        rfl
      exact congrArg Host.Outcome.next (dispatch_carried (op := .attach) h hop (.inl rfl) length operands opened rfl)
    · have replaced : carryAttach ⟨keepalive, loss⟩ (s.took rest) =
          ({ s with
              link := { s.link with session := some ⟨keepalive, loss⟩, keepalive := timer, cache := [] }
              delivery := { s.delivery with
                sendPoint := s.queue.oldest, highMark := s.queue.oldest, ackTimer := none, timeouts := 0
                stalled := false } }.took rest, .of .ok reply) := by
        have isSome : (s.took rest).link.session.isSome = true := Option.isSome_iff_ne_none.mpr attached
        simp only [carryAttach, isSome, if_true]
        rfl
      exact congrArg Host.Outcome.next (dispatch_carried (op := .attach) h hop (.inl rfl) length operands replaced rfl)
  case detach =>
    intro ha hop hp
    have length : RequestOp.detach.lengthOk r.payload = true := by rw [hp]; rfl
    exact congrArg Host.Outcome.next
      ((dispatch_ordered (op := .detach) (read := readNothing) (carry := carryDetach) h hop (.inr ha) length rfl).trans
        (answerRequest_unstored (by rw [hop]; rfl) _ _ _))
  case restart =>
    intro hop hp
    have length : RequestOp.restart.lengthOk r.payload = true := by rw [hp]; rfl
    exact congrArg Host.Outcome.next
      ((dispatch_ordered (op := .restart) (read := readNothing) (carry := carryRestart) h hop (.inl rfl) length
        rfl).trans (answerRequest_unstored (by rw [hop]; rfl) _ _ _))
  case config =>
    intro b hop hp
    have length : RequestOp.linkConfig.lengthOk r.payload = true := by rw [hp]; rfl
    have operands : readLinkConfig (s.took rest) r.payload = some b := by rw [hp]; exact readBaud_code b
    exact congrArg Host.Outcome.next
      ((dispatch_ordered (op := .linkConfig) (carry := carryLinkConfig) h hop (.inl rfl) length operands).trans
        (answerRequest_stored (by rw [hop]; rfl) _ _ _))
  case stats =>
    intro clear hop hp c
    have length : RequestOp.linkStats.lengthOk r.payload = true := by rw [hp]; rfl
    have operands : readLinkStats (s.took rest) r.payload = some clear := by rw [hp]; exact readFlag_flagByte clear
    have carried : carryLinkStats clear (s.took rest) =
        ({ s with link := { s.link with stats := if clear then ⟨0#32, 0, 0, 0, 0, 0, 0, 0, 0⟩ else c } }.took rest,
          .of .ok (statsPayload c)) := by
      cases clear <;> rfl
    exact congrArg Host.Outcome.next (dispatch_carried (op := .linkStats) h hop (.inl rfl) length operands carried rfl)

/-- Settles O47: the cache entry with the tag of the retry is found, and answers it. -/
theorem retryIsServedFromTheCache : Obligations.RetryIsServedFromTheCache := by
  intro s c op r rest front back e hs hh hw hc hop retry hcache tag nodup size
  obtain ⟨α, read, carry, he⟩ := exec_requestOf hc
  rw [hcache] at nodup size
  have others := tags_ne_of_nodup nodup
  have found : cachedFor r s.link.cache = some e := by
    rw [cachedFor, if_pos retry, hcache]
    refine find?_append_cons (fun x hx => ?_) (by simpa using tag)
    have := others x (by simp [hx])
    simpa [← tag] using this
  have answered : exec c s = .next (answerRetry r e (s.took rest)) := by
    rw [he]
    exact congrArg Host.Outcome.next (takeRequest_retry hs hh hw (by simp [hop]) _ found)
  refine ⟨fun same => ?_, fun other => ?_⟩
  · rw [answered, answerRetry, if_pos same, ← remember_middle nodup size, ← hcache]
    rfl
  · rw [answered, answerRetry, if_neg other]
    rfl

end Sys2Proof.Proofs
end

section
/-! SUPPORT and the settling of O39, O41, O42 and O43. A character as the levels of its bit times; the receiver's moves;
what becomes of a whole frame, by its kind; and a request frame sent byte by byte, by induction over its body. -/

namespace Sys2Proof.Machine

/-! ### Characters (R166) -/

theorem bit_bitLevel (b : Bool) : Level.bit (bitLevel b) = b := by cases b <;> rfl

theorem dataByte_dataLevels (b : Byte) : dataByte (dataLevels b) = b := by
  have bits : (dataLevels b).map Level.bit = [b.getLsbD 0, b.getLsbD 1, b.getLsbD 2, b.getLsbD 3, b.getLsbD 4,
      b.getLsbD 5, b.getLsbD 6, b.getLsbD 7] := by
    simp only [dataLevels, List.map_cons, List.map_nil, bit_bitLevel]
  unfold dataByte
  rw [bits]
  refine BitVec.eq_of_getLsbD_eq fun i hi => ?_
  have cases : i = 0 ∨ i = 1 ∨ i = 2 ∨ i = 3 ∨ i = 4 ∨ i = 5 ∨ i = 6 ∨ i = 7 := by omega
  rcases cases with rfl | rfl | rfl | rfl | rfl | rfl | rfl | rfl <;>
    simp [BitVec.ofBoolListLE]

theorem bitLevel_eq_high (b : Bool) : bitLevel b = .high ↔ b = true := by cases b <;> decide

theorem sampleCharacter_shape {levels : List Level} {c : Instr} (h : sampleCharacter levels = some c) :
    levels.length = 10 ∧ levels.head? = some .low := by
  unfold sampleCharacter at h
  split at h
  · exact ⟨rfl, rfl⟩
  · exact ⟨rfl, rfl⟩
  · cases h

/-! ### The receiver -/

section
variable {s : State} {b : Byte}

theorem lengthInRange_iff : lengthInRange b = true ↔ 4 ≤ b.toNat ∧ b.toNat ≤ 250 := by simp [lengthInRange]

theorem lengthInRange_false (h : b.toNat < 4 ∨ 250 < b.toNat) : lengthInRange b = false := by
  rw [← Bool.not_eq_true, lengthInRange_iff]
  omega

theorem receiveCharacter_hunt (h : s.link.receiver = .hunt) :
    receiveCharacter b s = if b = 0xA5#8 then setReceiver .length s else s := by
  simp only [receiveCharacter, h]

theorem receiveCharacter_length (h : s.link.receiver = .length) (lower : 4 ≤ b.toNat) (upper : b.toNat ≤ 250) :
    receiveCharacter b s = setReceiver (.body b []) s := by
  simp only [receiveCharacter, h, lengthInRange_iff.mpr ⟨lower, upper⟩, if_true]

theorem receiveCharacter_badLength (h : s.link.receiver = .length) (out : b.toNat < 4 ∨ 250 < b.toNat) :
    receiveCharacter b s = countLengthError s := by
  simp only [receiveCharacter, h, lengthInRange_false out, Bool.false_eq_true, if_false]

theorem receiveCharacter_body {len : Byte} {got : List Byte} (h : s.link.receiver = .body len got) :
    receiveCharacter b s = if got.length + 1 < len.toNat then setReceiver (.body len (got ++ [b])) s
      else setReceiver (.check len (got ++ [b]) none) s := by
  simp only [receiveCharacter, h]

theorem receiveCharacter_check {len : Byte} {got : List Byte} (h : s.link.receiver = .check len got none) :
    receiveCharacter b s = setReceiver (.check len got (some b)) s := by
  simp only [receiveCharacter, h]

theorem receiveCharacter_last {len high : Byte} {got : List Byte}
    (h : s.link.receiver = .check len got (some high)) : receiveCharacter b s = checkFrame len got high b s := by
  simp only [receiveCharacter, h]

theorem interByteGap_of (h : s.link.receiver ≠ .hunt) :
    interByteGap s = { s.runTo (s.link.rxLast + 200001) with link := { s.link with
      receiver := .hunt, stats := { s.link.stats with gapDiscards := min (s.link.stats.gapDiscards + 1) 65535 } } } := by
  unfold interByteGap
  cases hr : s.link.receiver with
  | hunt => exact absurd hr h
  | length => rfl
  | body len got => rfl
  | check len got high => rfl

end

/-! ### A whole frame -/

section
variable {s : State} {len high low kind tag op status : Byte} {payload : List Byte}

/-- The frame check passes: the receiver is in HUNT, and a running keepalive timer is restarted (R168, R171). -/
theorem restartKeepalive_setReceiver (s : State) : restartKeepalive (setReceiver .hunt s) = s.heard := by
  unfold restartKeepalive State.heard keepaliveAfterFrame
  cases hk : s.link.keepalive with
  | none => simp [setReceiver, State.setLink, hk]
  | some k =>
    cases hp : s.link.session with
    | none => simp [setReceiver, State.setLink, hk, hp]
    | some p => simp [setReceiver, State.setLink, hk, hp, keepaliveFrom, Config.ticksPerMilli]

theorem characterReceived_eq (hs : s.phase = .running) (b : Byte) :
    exec (.characterReceived b) s = .next (receiveCharacter b s) :=
  congrArg Host.Outcome.next (whenRunning_running _ hs)

/-- The last byte of a frame is received under either name (R168). -/
theorem frameReceived_eq (hs : s.phase = .running) {body : List Byte}
    (hr : s.link.receiver = .check len body (some high)) :
    exec (.frameReceived low) s = .next (checkFrame len body high low s) := by
  refine congrArg Host.Outcome.next ((whenRunning_running _ hs).trans ?_)
  rw [if_pos (by rw [hr]; rfl), receiveCharacter_last hr]

theorem LastByte.checkFrame {body : List Byte} (h : LastByte s len high low body) :
    checkFrame len body high low s = acceptFrame len body (setReceiver .hunt s) := if_pos h.agrees

theorem LastByte.frameReceived {body : List Byte} (h : LastByte s len high low body) :
    exec (.frameReceived low) s = .next (acceptFrame len body (setReceiver .hunt s)) := by
  rw [frameReceived_eq h.running h.waits, h.checkFrame]

theorem LastByte.characterReceived {body : List Byte} (h : LastByte s len high low body) :
    exec (.characterReceived low) s = .next (acceptFrame len body (setReceiver .hunt s)) := by
  rw [characterReceived_eq h.running, receiveCharacter_last h.waits, h.checkFrame]

/-- The state after the check with one more accepted frame (R171, R188). -/
def State.counted (s : State) : State := { s.heard with link := { s.heard.link with stats := s.link.stats.accept } }

theorem countAccepted_heard (s : State) : countAccepted s.heard = s.counted := rfl

theorem acceptFrame_request (h : kind.toNat % 16 = 1) :
    acceptFrame len (kind :: tag :: op :: status :: payload) (setReceiver .hunt s) =
      enterIntake ⟨kind.msb, tag, op, payload, crc (len :: (kind &&& 0x7F#8) :: tag :: op :: status :: payload)⟩
        s.counted := by
  simp only [acceptFrame, h, restartKeepalive_setReceiver]
  rfl

theorem acceptFrame_notice (h : kind.toNat % 16 = 4) (hop : op = 0x70#8 ∨ op = 0x71#8) :
    acceptFrame len (kind :: tag :: op :: status :: payload) (setReceiver .hunt s) =
      takeNotice (decide (op = 0x70#8)) payload s.counted := by
  rcases hop with rfl | rfl <;> simp only [acceptFrame, h, restartKeepalive_setReceiver] <;> rfl

theorem acceptFrame_other (h : (kind.toNat % 16 ≠ 1 ∧ kind.toNat % 16 ≠ 4) ∨
      (kind.toNat % 16 = 4 ∧ op ≠ 0x70#8 ∧ op ≠ 0x71#8)) :
    acceptFrame len (kind :: tag :: op :: status :: payload) (setReceiver .hunt s) = countWrongKind s.heard := by
  rw [acceptFrame, restartKeepalive_setReceiver]
  rcases h with ⟨notRequest, notNotice⟩ | ⟨notice, notAck, notNak⟩
  · split
    · exact absurd ‹_› notRequest
    · exact absurd ‹_› notNotice
    · rfl
  · simp only [notice, notAck, notNak, if_false]

theorem enterIntake_room {r : Request} (h : s.link.waiting.length + s.link.replies.length < 4) :
    enterIntake r s = s.setLink { s.link with waiting := s.link.waiting ++ [r] } := if_pos h

theorem enterIntake_full {r : Request} (h : 4 ≤ s.link.waiting.length + s.link.replies.length) :
    enterIntake r s = s.setLink { s.link with
      stats := { s.link.stats with intakeOverruns := min (s.link.stats.intakeOverruns + 1) 65535 } } :=
  if_neg (Nat.not_lt.mpr h)

/-! ### Notices -/

theorem takeNotice_attached (ack : Bool) (ha : Attached s) : takeNotice ack payload s = judgeNotice ack payload s := by
  obtain ⟨p, hp⟩ := Option.isSome_iff_exists.mp ha
  simp only [takeNotice, hp]

theorem takeNotice_detached (ack : Bool) (hd : s.link.session = none) :
    takeNotice ack payload s = { s with link := { s.link with
      stats := { s.link.stats with discardedNotices := min (s.link.stats.discardedNotices + 1) 65535 } } } := by
  unfold takeNotice
  rw [hd]
  rfl

theorem judgeNotice_valid (ack : Bool) (hl : payload.length = 4)
    (hv : s.queue.distance (wordBE payload) < s.queue.distance s.delivery.highMark) :
    judgeNotice ack payload s = if ack then takeAck (wordBE payload) s else takeNak (wordBE payload) s :=
  if_pos ⟨hl, decide_eq_true hv⟩

theorem judgeNotice_wrong (ack : Bool)
    (h : payload.length ≠ 4 ∨ s.queue.distance s.delivery.highMark ≤ s.queue.distance (wordBE payload)) :
    judgeNotice ack payload s = { s with
      delivery := { s.delivery with ackErrors := min (s.delivery.ackErrors + 1) 65535 } } := by
  refine if_neg fun valid => ?_
  have below := of_decide_eq_true valid.2
  rcases h with h | h
  · exact h valid.1
  · omega

theorem noticeTimer_eq (s : State) (left : Nat) :
    noticeTimer s left = if s.delivery.mode = .stream ∧ left ≠ 0 then some (s.now + s.delivery.ackTimeout * 100000)
      else none := by
  unfold noticeTimer
  cases s.delivery.mode with
  | poll => simp
  | stream =>
    by_cases h : left = 0
    · simp [h]
    · simp [h, ackExpiry, Config.ticksPerMilli]

theorem RecordQueue.distance_eq_zero (q : RecordQueue) (x : Word32) : q.distance x = 0 ↔ x = q.oldest := by
  unfold RecordQueue.distance
  bv_omega

theorem takeNak_eq (x : Word32) (s : State) :
    takeNak x s = { s with delivery := { s.delivery with
      sendPoint := x
      ackTimer := if s.delivery.mode = .stream ∧ x ≠ s.queue.oldest
        then some (s.now + s.delivery.ackTimeout * 100000) else none
      timeouts := 0, stalled := false } } := by
  have timer := noticeTimer_eq s (s.queue.distance x)
  simp only [ne_eq, RecordQueue.distance_eq_zero] at timer
  unfold takeNak
  rw [timer]
  rfl

/-- The queue once the k oldest records have left (R141, R142). -/
theorem RecordQueue.remove_eq (q : RecordQueue) (k : Nat) (time : Ticks) :
    q.remove k time = if q.pendingLoss = 0 then { q with records := q.records.drop k }
      else { q with
        records := q.records.drop k ++ [⟨q.next, ⟨.gap q.pendingLoss, time, []⟩⟩]
        next := q.next + 1#32, pendingLoss := 0, totalAdmitted := q.totalAdmitted + 1#32 } := rfl

/-- What is outstanding after a valid ACK (R155): the records from behind the named one up to the send point. -/
theorem QueueInv.outstanding_ack {q : RecordQueue} (hq : QueueInv q) {x point : Word32} (time : Ticks)
    (hx : q.distance x < q.records.length) :
    (q.remove (q.distance x + 1) time).distance (if q.distance x < q.distance point then point else x + 1#32) ≠ 0 ↔
      q.distance x + 1 < q.distance point := by
  have step : q.distance (x + 1#32) = q.distance x + 1 := RecordQueue.distance_succ (k := 257) (by
    have := hq.1
    omega) (by decide)
  split
  · rw [hq.remove_distance hx time (by omega)]
    omega
  · rw [hq.remove_distance hx time (by omega), step]
    omega

theorem takeAck_eq {x : Word32} (hq : QueueInv s.queue) (hd : DeliveryInv s)
    (hx : s.queue.distance x < s.queue.distance s.delivery.highMark) :
    takeAck x s = { s with
      queue := s.queue.remove (s.queue.distance x + 1) s.timebase.count
      delivery := { s.delivery with
        sendPoint := if s.queue.distance x < s.queue.distance s.delivery.sendPoint then s.delivery.sendPoint
          else x + 1#32
        ackTimer := if s.delivery.mode = .stream ∧
            s.queue.distance x + 1 < s.queue.distance s.delivery.sendPoint
          then some (s.now + s.delivery.ackTimeout * 100000) else none
        timeouts := 0, stalled := false } } := by
  have held : s.queue.distance x < s.queue.records.length := by
    have bound := hd.2.1
    rw [hq.distance_next] at bound
    omega
  unfold takeAck
  simp only [noticeTimer_eq, hq.outstanding_ack _ held]
  rfl

end

/-! ### A frame sent byte by byte -/

/-- The two bytes of a CRC read back (R169). -/
theorem append_bytesBE (v : Word16) : ∃ high low, bytesBE 2 v.toNat = [high, low] ∧ high ++ low = v := by
  refine ⟨_, _, rfl, BitVec.eq_of_toNat_eq ?_⟩
  have := v.isLt
  simp only [toNat_append_eq, BitVec.toNat_ofNat]
  omega

/-- The body of a frame received byte by byte (R168). -/
theorem follow_body {len : Byte} : ∀ (bs got : List Byte) (s : State), bs ≠ [] → s.phase = .running →
    s.link.receiver = .body len got → got.length + bs.length = len.toNat →
    follow (bs.map .characterReceived) s = some (setReceiver (.check len (got ++ bs) none) s) := by
  intro bs
  induction bs with
  | nil => exact fun _ _ h => absurd rfl h
  | cons b bs ih =>
    intro got s _ hs hr hl
    simp only [List.length_cons] at hl
    rw [List.map_cons, follow_cons (characterReceived_eq hs b), receiveCharacter_body hr]
    by_cases last : bs = []
    · subst last
      rw [if_neg (by simp at hl; omega)]
      rfl
    · have more : 0 < bs.length := List.length_pos_iff.mpr last
      rw [if_pos (by omega), ih (got ++ [b]) (setReceiver (.body len (got ++ [b])) s) last hs rfl (by simp; omega), List.append_assoc]
      rfl

theorem follow_append {cs ds : List Instr} {s t : State} (h : follow cs s = some t) :
    follow (cs ++ ds) s = follow ds t := by
  induction cs generalizing s with
  | nil => cases h; rfl
  | cons c cs ih =>
    rw [List.cons_append]
    cases he : exec c s with
    | next u =>
      rw [follow_cons he] at h ⊢
      exact ih h
    | fault f => simp [follow, he] at h
    | refused f => simp [follow, he] at h

/-- A whole frame received byte by byte is checked as such (R168, R169). -/
theorem follow_frame {s : State} {len : Byte} {body : List Byte} (hs : s.phase = .running)
    (hr : s.link.receiver = .hunt) (lower : 4 ≤ len.toNat) (upper : len.toNat ≤ 250) (hl : body.length = len.toNat) :
    follow ((0xA5#8 :: (len :: body) ++ bytesBE 2 (crc (len :: body)).toNat).map .characterReceived) s =
      some (acceptFrame len body (setReceiver .hunt s)) := by
  obtain ⟨high, low, bytes, agrees⟩ := append_bytesBE (crc (len :: body))
  have nonempty : body ≠ [] := by
    rintro rfl
    simp at hl
    omega
  rw [bytes, List.cons_append, List.cons_append, List.map_cons, List.map_cons, List.map_append,
    follow_cons (characterReceived_eq hs _), receiveCharacter_hunt hr, if_pos rfl,
    follow_cons (characterReceived_eq (s := setReceiver .length s) hs _),
    receiveCharacter_length (s := setReceiver .length s) rfl lower upper,
    follow_append (follow_body body [] (setReceiver (.body len []) (setReceiver .length s)) nonempty hs rfl
      (by simpa using hl))]
  let u := setReceiver (.check len body none) s
  let v := setReceiver (.check len body (some high)) s
  have first : exec (.characterReceived high) u = .next v :=
    (characterReceived_eq (s := u) hs high).trans (congrArg Host.Outcome.next (receiveCharacter_check rfl))
  have whole : LastByte v len high low body := ⟨hs, rfl, agrees⟩
  exact (follow_cons first).trans (follow_cons whole.characterReceived)

end Sys2Proof.Machine

namespace Sys2Proof.Proofs

open Sys2Proof.Machine

/-- Settles O39: the three judgements of a notice, on the state after the check. -/
theorem noticesMoveDelivery : Obligations.NoticesMoveDelivery := by
  constructor
  · intro s len high low kind tag status payload last hk hl hq hd ha valid x left t
    have taken : acceptFrame len (kind :: tag :: 0x70#8 :: status :: payload) (setReceiver .hunt s) = t := by
      rw [acceptFrame_notice hk (.inl rfl), takeNotice_attached (s := s.counted) _ ha, judgeNotice_valid (s := s.counted) _ hl valid,
        decide_eq_true rfl, if_pos rfl, takeAck_eq (s := s.counted) hq hd valid]
      rfl
    exact ⟨last.frameReceived.trans (congrArg _ taken), last.characterReceived.trans (congrArg _ taken)⟩
  · intro s len high low kind tag op status payload last hk ha x heard
    refine ⟨fun hop hl valid => ?_, fun hop wrong => ?_⟩
    · subst hop
      rw [last.frameReceived, acceptFrame_notice hk (.inr rfl), takeNotice_attached (s := s.counted) _ ha, judgeNotice_valid (s := s.counted) _ hl valid,
        decide_eq_false (by decide), if_neg (by decide), takeNak_eq]
      rfl
    · rw [last.frameReceived, acceptFrame_notice hk hop, takeNotice_attached (s := s.counted) _ ha, judgeNotice_wrong (s := s.counted) _ wrong]
      rfl

/-- Settles O41: the receiver's moves one by one, and a character's levels. -/
theorem charactersMoveTheReceiver : Obligations.CharactersMoveTheReceiver := by
  constructor
  · intro s b hs moved lengthError
    have received := characterReceived_eq hs b
    refine ⟨fun hr => ?_, fun hr lower upper => ?_, fun hr out => ⟨?_, ?_⟩, fun len got hr => ?_, fun len got hr => ?_,
      ?_, fun hr => ?_, fun hr => ?_⟩
    · rw [received, receiveCharacter_hunt hr]
      split <;> rfl
    · rw [received, receiveCharacter_length hr lower upper]
      rfl
    · rw [received, receiveCharacter_badLength hr out]
      rfl
    · refine congrArg Host.Outcome.next ((whenRunning_running _ hs).trans ?_)
      rw [if_pos ⟨hr, lengthInRange_false out⟩]
      rfl
    · rw [received, receiveCharacter_body hr]
      split <;> rfl
    · rw [received, receiveCharacter_check hr]
      rfl
    · exact congrArg Host.Outcome.next (whenRunning_running _ hs)
    · exact congrArg Host.Outcome.next ((whenRunning_running _ hs).trans (interByteGap_of hr))
    · refine congrArg Host.Outcome.next ((whenRunning_running _ hs).trans ?_)
      rw [interByteGap, hr]
  · refine ⟨fun b => ⟨fun i => bitLevel (b.getLsbD i.val), fun i => bitLevel_eq_high _, rfl, ?_, rfl⟩,
      fun levels c => sampleCharacter_shape, fun frame closing => List.flatMap_def .., rfl, rfl⟩
    exact congrArg (fun b => some (Instr.characterReceived b)) (dataByte_dataLevels b)

/-- Settles O42: the frame check, and where each kind of frame goes. -/
theorem checkedFramesGoWhereTheirKindSays : Obligations.CheckedFramesGoWhereTheirKindSays := by
  intro s len high low kind tag op status payload body with_
  refine ⟨fun hs hr wrong => ?_, fun last hk room => ?_, fun last hk full => ?_, fun last hk hop detached => ?_,
    fun last other => ?_⟩
  · rw [frameReceived_eq hs hr, checkFrame, if_neg wrong]
    rfl
  · rw [last.frameReceived, acceptFrame_request hk, enterIntake_room (s := s.counted) room]
    rfl
  · rw [last.frameReceived, acceptFrame_request hk, enterIntake_full (s := s.counted) full]
    rfl
  · rw [last.frameReceived, acceptFrame_notice hk hop, takeNotice_detached (s := s.counted) _ detached]
    rfl
  · rw [last.frameReceived, acceptFrame_other other]
    rfl

/-- Settles O43: the bytes of the frame by the receiver's moves, its body by induction. -/
theorem requestFrameSentIsReceivedWhole : Obligations.RequestFrameSentIsReceivedWhole := by
  intro s retry tag op status payload hs hr hl room
  have size : (byteOf (4 + payload.length)).toNat = 4 + payload.length := by
    rw [byteOf, BitVec.toNat_ofNat]
    exact Nat.mod_eq_of_lt (by omega)
  have received (kind : Byte) := follow_frame (body := kind :: tag :: op :: status :: payload) hs hr
    (by rw [size]; omega) (by rw [size]; omega) (by rw [size]; simp only [List.length_cons]; omega)
  have sent (kind : Byte) : encodeFrame kind tag op status payload =
      0xA5#8 :: (byteOf (4 + payload.length) :: kind :: tag :: op :: status :: payload) ++
        bytesBE 2 (crc (byteOf (4 + payload.length) :: kind :: tag :: op :: status :: payload)).toNat := by
    simp only [encodeFrame, List.length_append, List.length_cons, List.length_nil]
    rfl
  rw [sent, received]
  cases retry with
  | false =>
    rw [if_neg Bool.false_ne_true, acceptFrame_request (by decide), enterIntake_room (s := s.counted) room]
    rfl
  | true =>
    rw [if_pos rfl, acceptFrame_request (by decide), enterIntake_room (s := s.counted) room]
    rfl

end Sys2Proof.Proofs
end

section
/-! SUPPORT and the settling of O9, O10, O11 and O13. The notices that an axis gives its schedule, each by one equation
(a departure, a jump), the sequences of an axis that use them (LOST, completed homing, an index arrival), and the axis
requests. -/

namespace Sys2Proof.Machine

/-! ### Notices to a schedule -/

section
variable {n : AxisId} {s : State}

theorem scheds_set_self (n : AxisId) (s : State) : s.scheds.set n (s.sched n) = s.scheds := by simp [State.sched]

theorem holdSchedule_eq (n : AxisId) (s : State) :
    holdSchedule n s = { s with
      scheds := s.scheds.set n { s.sched n with state := if (s.sched n).state = .running then .held
        else (s.sched n).state }
      queue := if (s.sched n).state = .running then
          s.queue.offer s.queue.enables.schedule ⟨.schedule n .held (s.sched n).active.length, s.timebase.count, []⟩
        else s.queue } := by
  unfold holdSchedule
  by_cases h : (s.sched n).state = .running
  · simp only [h, if_true, schedRecord_eq]
    simp [State.setSched, State.sched]
  · simp only [h, if_false]
    change s = { s with scheds := s.scheds.set n (s.sched n) }
    rw [scheds_set_self]

theorem cancelCommit_eq (n : AxisId) (s : State) :
    cancelCommit n s = { s with
      scheds := s.scheds.set n { s.sched n with commit := none }
      queue := s.queue.offer s.queue.enables.schedule
        ⟨.schedule n .commitCancelled (s.sched n).active.length, s.timebase.count, []⟩ } := by
  unfold cancelCommit
  rw [schedRecord_eq]
  simp [State.setSched, State.sched]

/-- A departure notice (R59, R70). -/
theorem departure_eq (n : AxisId) (s : State) :
    departure n s = { s with
      scheds := s.scheds.set n (s.sched n).departed
      queue := s.queue.departed n (s.sched n) s.timebase.count } := by
  have held : (holdSchedule n s).sched n = { s.sched n with
      state := if (s.sched n).state = .running then .held else (s.sched n).state } := by
    rw [holdSchedule_eq]
    simp [State.sched]
  have enables : (holdSchedule n s).queue.enables = s.queue.enables := by
    rw [holdSchedule_eq]
    simp only
    split <;> simp
  unfold departure Schedule.departed RecordQueue.departed
  simp only [held]
  cases hc : (s.sched n).commit with
  | none => simp only [hc, holdSchedule_eq]
  | some commit =>
    cases commit with
    | atTrigger run => simp only [hc, holdSchedule_eq]
    | atPosition p run =>
      simp only [cancelCommit_eq, held, enables]
      simp only [holdSchedule_eq, Vector.set_set]

theorem departIf_eq (was : RefState) (n : AxisId) (s : State) :
    departIf was n s = { s with
      scheds := if was = .referenced then s.scheds.set n (s.sched n).departed else s.scheds
      queue := if was = .referenced then s.queue.departed n (s.sched n) s.timebase.count else s.queue } := by
  unfold departIf
  by_cases h : was = .referenced
  · simp only [h, if_true, departure_eq]
  · simp only [h, if_false]

theorem jump_idle (h : (s.sched n).state ≠ .running) : jump n s = s := if_neg h

theorem jump_running (h : (s.sched n).state = .running) :
    jump n s = s.setSched n { s.sched n with active := armAll (s.axis n) (s.sched n).h (s.sched n).active } := if_pos h

theorem reachCommit_idle (h : ∀ run, (s.sched n).commit ≠ some (.atPosition (s.axis n).position.value run)) :
    reachCommit n s = s := by
  unfold reachCommit
  cases hc : (s.sched n).commit with
  | none => rfl
  | some commit =>
    cases commit with
    | atTrigger run => rfl
    | atPosition p run =>
      refine if_neg fun here => h run ?_
      rw [hc, here]

/-! ### Reference states -/

/-- The sequence by which a REFERENCED axis enters LOST (R12, R59, R70). -/
theorem enterLost_referenced (reason : LostReason) (h : (s.axis n).ref = .referenced) :
    enterLost n reason s = sendEvent (.axisLost n) s.timebase.count { s with
      axes := s.axes.set n { s.axis n with ref := .lost reason }
      scheds := s.scheds.set n (s.sched n).departed
      queue := (s.queue.offer s.queue.enables.axis
        ⟨.axis (.lost reason) (.lost reason) (s.axis n).errors, s.timebase.count, [(s.axis n).posWord n]⟩).departed n
          (s.sched n) s.timebase.count } := by
  unfold enterLost
  simp only [departIf_eq, h, if_true, axisRecord_eq]
  simp [State.setAxis, State.axis, State.sched, Axis.posWord]

/-- The sequence by which any other axis enters LOST (R12). -/
theorem enterLost_other (reason : LostReason) (h : (s.axis n).ref ≠ .referenced) :
    enterLost n reason s = sendEvent (.axisLost n) s.timebase.count { s with
      axes := s.axes.set n { s.axis n with ref := .lost reason }
      queue := s.queue.offer s.queue.enables.axis
        ⟨.axis (.lost reason) (.lost reason) (s.axis n).errors, s.timebase.count, [(s.axis n).posWord n]⟩ } := by
  unfold enterLost
  simp only [departIf_eq, h, if_false, axisRecord_eq]
  simp [State.setAxis, State.axis, Axis.posWord]

/-! ### A count -/

theorem axes_set_takePair (n : AxisId) (c : PairChange) (s : State) (x : Axis) :
    (s.takePair n c).axes.set n x = s.axes.set n x := by
  simp [State.takePair, State.setAxis]

theorem countEvent_eq {c : PairChange} {raw : Dir} (takes : List Nat) (hc : s.nextPair n = some c)
    (hr : (s.axis n).counts c = some raw) :
    countEvent n takes s = applyCount n ((s.axis n).config.direct raw) takes (s.takePair n c) := by
  simp only [countEvent, hc, hr]

theorem AxisConfig.direct_eq (c : AxisConfig) (raw : Dir) :
    c.direct raw = if c.invert then (match raw with | .up => .down | .down => .up) else raw := by
  cases raw <;> rfl

theorem countPosition_linear {x : Int} {d : Dir} (cpr : Nat) (lower : -2147483648 ≤ x + d.step)
    (upper : x + d.step ≤ 2147483647) : countPosition cpr d (.linear x) = some (.linear (x + d.step)) := by
  refine if_neg ?_
  simp only [Config.minLinear, Config.maxLinear]
  omega

theorem countPosition_refused {x : Int} {d : Dir} (cpr : Nat)
    (out : x + d.step < -2147483648 ∨ 2147483647 < x + d.step) : countPosition cpr d (.linear x) = none := if_pos out

/-- A count of an axis whose position can move, handed to its schedule (R6 to R9). -/
theorem applyCount_moves {d : Dir} {p : Position} (takes : List Nat)
    (hp : countPosition (s.axis n).config.cpr d (s.axis n).position = some p) :
    applyCount n d takes s = countNotice n d takes (s.setAxis n { s.axis n with position := p, lastDir := d }) := by
  simp only [applyCount, hp]

/-- A count that its axis refuses (R7, R12). -/
theorem applyCount_refused {d : Dir} (takes : List Nat)
    (hp : countPosition (s.axis n).config.cpr d (s.axis n).position = none) :
    applyCount n d takes s = if (s.axis n).ref.isLost then s else enterLost n .overrange s := by
  simp only [applyCount, hp]

theorem countNotice_idle {d : Dir} (takes : List Nat) (hs : (s.sched n).state ≠ .running)
    (hc : ∀ run, (s.sched n).commit ≠ some (.atPosition (s.axis n).position.value run)) :
    countNotice n d takes s = s := by
  rw [countNotice, if_neg hs, reachCommit_idle hc]

/-! ### A quadrature error -/

theorem isQuadError_true {m : CountMode} {a b a' b' : Level} (hm : m ≠ .stepDir) (ha : a' ≠ a) (hb : b' ≠ b) :
    isQuadError m a b a' b' = true := by
  cases m with
  | stepDir => exact absurd rfl hm
  | quadX1 => simp [isQuadError, ha.symm, hb.symm]
  | quadX2 => simp [isQuadError, ha.symm, hb.symm]
  | quadX4 => simp [isQuadError, ha.symm, hb.symm]

theorem quadratureError_eq {c : PairChange} (hc : s.nextPair n = some c) :
    quadratureError n s = if (s.axis n).errs c then countError n (s.takePair n c) else s := by
  simp only [quadratureError, hc]

end

end Sys2Proof.Machine

namespace Sys2Proof.Proofs

open Sys2Proof.Machine

/-- Settles O9: the position moves and the schedule does not evaluate the count, or the count is refused. -/
theorem countMovesThePositionOrIsRefused : Obligations.CountMovesThePositionOrIsRefused := by
  constructor
  · intro s n takes c raw d p hs hc hr hd hp idle away
    have direct : (s.axis n).config.direct raw = d := (AxisConfig.direct_eq _ raw).trans hd.symm
    have moves : countPosition (s.axis n).config.cpr d (s.axis n).position = some p := by
      cases hpos : (s.axis n).position with
      | linear x =>
        rw [hpos] at hp
        cases d <;> obtain ⟨lower, upper, rfl⟩ := hp <;> exact countPosition_linear _ lower upper
      | rotary turn angle =>
        rw [hpos] at hp
        cases d <;> simp only [countPosition, hp] <;> split <;> rfl
    refine congrArg Host.Outcome.next ((whenRunning_running _ hs).trans ?_)
    rw [countEvent_eq takes hc hr, direct, applyCount_moves (p := p) takes (by simpa using moves), countNotice_idle]
    · simp
    · simpa using idle
    · simpa using away
  · intro s n takes c raw x hs hc hr hpos hd limit u lost reported
    have refused : countPosition (s.axis n).config.cpr ((s.axis n).config.direct raw) (s.axis n).position = none := by
      rw [hpos, (AxisConfig.direct_eq _ raw).trans hd]
      refine countPosition_refused _ ?_
      rcases limit with rfl | rfl
      · right; decide
      · left; decide
    have counted : exec (.countEvent n takes) s =
        .next (if (s.axis n).ref.isLost then u else enterLost n .overrange u) := by
      refine congrArg Host.Outcome.next ((whenRunning_running _ hs).trans ?_)
      rw [countEvent_eq takes hc hr, applyCount_refused takes (by simpa using refused)]
      simp [u]
    have word : (u.axis n).posWord n = ⟨n, 0#32, BitVec.ofInt 32 x⟩ := by
      rw [State.takePair_axis_same, Axis.posWord]
      simp only [hpos]
      rfl
    rw [counted]
    refine ⟨fun reason href => ?_, fun href => ?_, fun href => ?_⟩
    · rw [href]
      rfl
    · have notLost : (s.axis n).ref.isLost = false := by
        rcases href with href | ⟨sub, href⟩ <;> rw [href] <;> rfl
      have notReferenced : (u.axis n).ref ≠ .referenced := by
        rw [State.takePair_axis_same]
        rcases href with href | ⟨sub, href⟩ <;> simp [href]
      rw [notLost, if_neg Bool.false_ne_true, enterLost_other _ notReferenced, word]
      simp only [u, axes_set_takePair, State.takePair_axis_same]
      rfl
    · have notLost : (s.axis n).ref.isLost = false := by rw [href]; rfl
      rw [notLost, if_neg Bool.false_ne_true, enterLost_referenced _ (by rw [State.takePair_axis_same]; exact href),
        word]
      simp only [u, axes_set_takePair, State.takePair_axis_same]
      rfl

/-- Settles O10: the count of the errors, below and at the limit of a REFERENCED axis. -/
theorem quadratureErrorsAreCountedUpToTheLimit : Obligations.QuadratureErrorsAreCountedUpToTheLimit := by
  constructor
  · intro s n c hs hc
    refine ⟨fun mode ha hb below => ?counts, fun stepDir => ?nothing⟩
    case counts =>
      refine congrArg Host.Outcome.next ((whenRunning_running _ hs).trans ?_)
      have errs : (s.axis n).errs c = true := isQuadError_true mode ha hb
      rw [quadratureError_eq hc, if_pos errs, countError]
      simp only [State.takePair_axis_same]
      exact if_neg below
    case nothing =>
      refine congrArg Host.Outcome.next ((whenRunning_running _ hs).trans ?_)
      have noError : (s.axis n).errs c = false := by rw [Axis.errs, stepDir]; rfl
      rw [quadratureError_eq hc, noError]
      rfl
  · intro s n c hs hc mode ha hb href limit small reaches u
    have errs : (s.axis n).errs c = true := isQuadError_true mode ha hb
    have counted : inc16 (s.axis n).errors = (s.axis n).config.errorLimit := by
      rw [inc16, reaches]
      exact Nat.min_eq_left (show _ ≤ 65535 by omega)
    refine congrArg Host.Outcome.next ((whenRunning_running _ hs).trans ?_)
    rw [quadratureError_eq hc, if_pos errs, countError]
    simp only [State.takePair_axis_same, counted]
    rw [if_pos ⟨href, limit, trivial⟩, enterLost_referenced _ (by simpa using href)]
    simp [State.setAxis, State.axis, State.sched, u, State.takePair, Axis.posWord]

end Sys2Proof.Proofs
end

section
/-! SUPPORT and the settling of O11 and O13. An index arrival: what is noted and reported
(`State.arrived`), then the judgement of its slip, then homing; and the axis requests. -/

namespace Sys2Proof.Machine

section
variable {n : AxisId} {s : State} {x : Axis}

theorem axes_set_takeIndex (n : AxisId) (c : LineChange) (s : State) (x : Axis) :
    (s.takeIndex n c).axes.set n x = s.axes.set n x := by
  simp [State.takeIndex, State.setAxis]

/-- A RUNNING schedule evaluates its armed flags against the position its axis has jumped to (R42). -/
theorem jump_moved {axes : Vector Axis 4} {q : RecordQueue} (hx : axes[n] = x) (h : (s.sched n).state = .running) :
    jump n { s with axes := axes, queue := q } = { s with
      axes := axes
      queue := q
      scheds := s.scheds.set n { s.sched n with active := (s.sched n).active.map fun e =>
        { e with armed := decide ((s.sched n).h ≤ x.distance e.position) } } } := by
  rw [jump_running (by exact h), ← hx]
  rfl

/-! ### An index arrival -/

/-- The axis with an arrival noted (R13). -/
def Axis.noted (x : Axis) : Axis :=
  { x with
    lastIndexTurn := x.position.turn, lastIndexValue := BitVec.ofInt 32 x.position.value
    lastSlip := x.checked.getD 0 }

/-- The INDEX record of an arrival at `time` (R17, R130). -/
def Axis.indexItem (n : AxisId) (x : Axis) (time : Ticks) : Item :=
  ⟨match x.checked with
    | some v => .index v (x.corrected v) (x.clean v)
    | none => .index 0 false false, time, [x.posWord n]⟩

/-- The time of an arrival: that at which the filter began (R13). -/
def State.arrivalTime (s : State) (n : AxisId) : Ticks :=
  s.timebase.count - BitVec.ofNat 48 (s.axis n).config.filter

/-- The state with the arrival noted and its INDEX record made (R18). -/
def State.arrived (s : State) (n : AxisId) : State :=
  { s with
    axes := s.axes.set n (s.axis n).noted
    queue := s.queue.offer ((s.axis n).reportsIndex (s.axis n).checked)
      ((s.axis n).indexItem n (s.arrivalTime n)) }

theorem State.arrived_axis (n : AxisId) (s : State) : (s.arrived n).axis n = (s.axis n).noted := by
  simp [State.arrived, State.axis]

theorem arrive_unchecked (h : (s.axis n).checked = none) :
    arrive n s = sendEvent (.index n) (s.arrivalTime n) (homingIndex n (s.arrived n)) := by
  simp only [arrive, h, indexRecord, State.produceIf_eq]
  simp only [State.arrived, h, Axis.indexItem]
  rfl

theorem arrive_checked {v : Int} (h : (s.axis n).checked = some v) :
    arrive n s = sendEvent (.index n) (s.arrivalTime n) (homingIndex n (checkArrival n v (s.arrived n))) := by
  simp only [arrive, h, indexRecord, State.produceIf_eq]
  simp only [State.arrived, h, Axis.indexItem]
  rfl

theorem indexArrival_eq {c : LineChange} (hl : (s.axis n).decoder.index = .low) (hc : s.nextIndex n = some c) :
    indexArrival n s = arrive n (s.takeIndex n c) := by
  simp only [indexArrival, hl, hc]

theorem checked_takeIndex (c : LineChange) : ((s.takeIndex n c).axis n).checked = (s.axis n).checked := by
  rw [State.takeIndex_axis_same]
  rfl

/-- The arrival at the moment of a rise (R13, R17). -/
theorem arrived_takeIndex (c : LineChange) (hl : (s.axis n).decoder.index = .low) :
    (s.takeIndex n c).arrived n = { s.takeIndex n c with
      axes := s.axes.set n { (s.axis n).noted with decoder := { (s.axis n).decoder with index := .high } }
      queue := s.queue.offer ((s.axis n).reportsIndex (s.axis n).checked)
        ((s.axis n).indexItem n
          ((s.takeIndex n c).timebase.count - BitVec.ofNat 48 (s.axis n).config.filter)) } := by
  unfold State.arrived State.arrivalTime
  rw [axes_set_takeIndex, State.takeIndex_axis_same, hl]
  rfl

theorem Axis.noted_unchecked (h : x.checked = none) : x.noted = { x with
    lastIndexTurn := x.position.turn, lastIndexValue := BitVec.ofInt 32 x.position.value, lastSlip := 0 } := by
  rw [Axis.noted, h]
  rfl

theorem Axis.indexItem_unchecked (h : x.checked = none) (time : Ticks) :
    x.indexItem n time = ⟨.index 0 false false, time, [x.posWord n]⟩ := by
  rw [Axis.indexItem, h]

theorem Axis.reportsIndex_unchecked : x.reportsIndex none = decide (x.config.reporting = .all) := by
  unfold Axis.reportsIndex
  cases x.config.reporting <;> rfl

theorem Axis.noted_checked {turn : Word32} {angle : Nat} {v : Int} (h : x.checked = some v)
    (hp : x.position = .rotary turn angle) : x.noted = { x with
    lastIndexTurn := turn, lastIndexValue := BitVec.ofInt 32 angle, lastSlip := v } := by
  rw [Axis.noted, h, hp]
  rfl

theorem Axis.indexItem_checked {turn : Word32} {angle : Nat} {v : Int} (h : x.checked = some v)
    (hp : x.position = .rotary turn angle) (time : Ticks) :
    x.indexItem n time = ⟨.index v (x.corrected v) (x.clean v), time, [⟨n, turn, BitVec.ofInt 32 angle⟩]⟩ := by
  rw [Axis.indexItem, h, Axis.posWord, hp]
  rfl

theorem Axis.checked_none (h : x.ref = .referenced → x.position.mode = .linear) : x.checked = none := by
  unfold Axis.checked
  split
  · rename_i href hpos
    have linear := h href
    rw [hpos] at linear
    cases linear
  · rfl

theorem Axis.checked_rotary {turn : Word32} {angle : Nat} (hr : x.ref = .referenced)
    (hp : x.position = .rotary turn angle) : x.checked = some (slipOf x.config.cpr angle) := by
  simp only [Axis.checked, hr, hp]

/-! ### Homing -/

theorem DirQualifier.accepts_eq_true {q : DirQualifier} {d : Dir}
    (h : match q, d with | .any, _ => True | .up, .up => True | .down, .down => True | _, _ => False) :
    q.accepts d = true := by
  cases q <;> cases d <;> simp_all [DirQualifier.accepts]

theorem DirQualifier.accepts_eq_false {q : DirQualifier} {d : Dir} (h : (q = .up ∧ d = .down) ∨ (q = .down ∧ d = .up)) :
    q.accepts d = false := by
  rcases h with ⟨rfl, rfl⟩ | ⟨rfl, rfl⟩ <;> rfl

/-- Homing ignores an index arrival that does not complete it (R20). -/
theorem homingIndex_ignores (h : (s.axis n).ref = .seeking .awaitReference →
      (s.axis n).homing.source.onIndex = false ∨ (s.axis n).homing.qualifier.accepts (s.axis n).lastDir = false) :
    homingIndex n s = s := by
  unfold homingIndex
  simp only
  split
  · rename_i href
    refine if_neg ?_
    rcases h href with h | h <;> simp [h]
  all_goals rfl

theorem homingIndex_completes (hr : (s.axis n).ref = .seeking .awaitReference)
    (hs : (s.axis n).homing.source.onIndex = true)
    (hq : (s.axis n).homing.qualifier.accepts (s.axis n).lastDir = true) : homingIndex n s = completeHoming n s := by
  simp only [homingIndex, hr, hs, hq, Bool.and_self, if_true]

/-- Completed homing of an axis whose schedule does not run (R21). -/
theorem completeHoming_idle (h : (s.sched n).state ≠ .running) :
    completeHoming n s = { s with
      axes := s.axes.set n { s.axis n with
        position := presetPosition (s.axis n).homing.preset (s.axis n).position, ref := .referenced, errors := 0 }
      queue := s.queue.offer s.queue.enables.axis
        ⟨.axis .referenced .homed 0, s.timebase.count,
          [⟨n, (presetPosition (s.axis n).homing.preset (s.axis n).position).turn,
            BitVec.ofInt 32 (presetPosition (s.axis n).homing.preset (s.axis n).position).value⟩]⟩ } := by
  unfold completeHoming
  simp only [axisRecord_eq, State.setAxis_axis_same]
  rw [jump_idle (by exact h)]
  rfl

/-! ### The judgement of a slip -/

theorem Axis.clean_eq (v : Int) : x.clean v = decide (v.natAbs ≤ x.config.tolerance) := rfl

theorem Axis.slipLost_eq (v : Int) : x.slipLost v =
    decide (¬v.natAbs ≤ x.config.tolerance ∧ x.config.slipLimit ≠ 0 ∧ x.config.slipLimit < v.natAbs) := by
  simp only [Axis.slipLost, Axis.clean_eq, Bool.decide_and, decide_not, Bool.and_assoc]

theorem Axis.corrected_eq (v : Int) : x.corrected v =
    decide (¬v.natAbs ≤ x.config.tolerance ∧
      ¬(¬v.natAbs ≤ x.config.tolerance ∧ x.config.slipLimit ≠ 0 ∧ x.config.slipLimit < v.natAbs) ∧
      x.config.slipPolicy = .correct) := by
  simp only [Axis.corrected, Axis.clean_eq, Axis.slipLost_eq, ← Bool.decide_and, ← decide_not, and_assoc]

theorem checkArrival_lost {v : Int} (h : (s.axis n).slipLost v = true) : checkArrival n v s = enterLost n .slip s :=
  if_pos h

theorem checkArrival_corrected {v : Int} (h : (s.axis n).slipLost v = false) (hc : (s.axis n).corrected v = true) :
    checkArrival n v s =
      jump n (s.setAxis n { s.axis n with position := correctPosition v (s.axis n).position }) := by
  simp only [checkArrival, h, hc, Bool.false_eq_true, if_false, if_true]

theorem checkArrival_kept {v : Int} (h : (s.axis n).slipLost v = false) (hc : (s.axis n).corrected v = false) :
    checkArrival n v s = s := by
  simp only [checkArrival, h, hc, Bool.false_eq_true, if_false]

theorem sendEvent_axis (source : EventSource) (time : Ticks) (s : State) (m : AxisId) :
    (sendEvent source time s).axis m = s.axis m := by
  obtain ⟨_, _, _, _, _, _, he⟩ := sendEvent_frame source time s
  rw [he]
  rfl

/-- A slip lies within half a revolution (R14). -/
theorem slipOf_range {cpr angle : Nat} (h : angle < cpr) :
    -(cpr : Int) < 2 * slipOf cpr angle ∧ 2 * slipOf cpr angle ≤ cpr := by
  unfold slipOf
  split <;> omega

/-- The correction is to the nearest revolution (R16). -/
theorem slipOf_nearest {cpr angle : Nat} (h : angle < cpr) (turn k : Int) :
    ((turn + if slipOf cpr angle < 0 then 1 else 0) * cpr - (turn * cpr + angle)).natAbs ≤
      (k * cpr - (turn * cpr + angle)).natAbs := by
  obtain ⟨j, rfl⟩ : ∃ j, k = turn + j := ⟨k - turn, by omega⟩
  have away : j * cpr ≤ 0 ∨ (cpr : Int) ≤ j * cpr := by
    rcases Int.lt_or_le 0 j with pos | nonpos
    · exact .inr (by simpa using Int.mul_le_mul_of_nonneg_right (show 1 ≤ j from pos) (Int.natCast_nonneg cpr))
    · exact .inl (Int.mul_nonpos_of_nonpos_of_nonneg nonpos (Int.natCast_nonneg cpr))
  unfold slipOf
  rw [Int.add_mul, Int.add_mul]
  by_cases near : 2 * angle ≤ cpr
  · rw [if_pos near, if_neg (by omega)]
    omega
  · rw [if_neg near, if_pos (by omega)]
    omega

end

/-! ### Axis requests -/

section
variable {n : AxisId} {s : State} {rest : List Request}

theorem carryAxisConfig_stopped {c : AxisConfig} {m : AxisMode} (hs : (s.sched n).state = .stopped)
    (ha : (s.sched n).active = []) (hg : (s.sched n).staging = []) :
    carryAxisConfig (n, c, m) s = ({ s.forgetReturned n with
      axes := s.axes.set n ((s.axis n).reconfigure c m)
      scheds := if (s.axis n).ref = .referenced then s.scheds.set n (s.sched n).departed else s.scheds
      queue :=
        let reported := s.queue.offer s.queue.enables.axis
          ⟨.axis .unreferenced .config 0, s.timebase.count, [((s.axis n).reconfigure c m).posWord n]⟩
        if (s.axis n).ref = .referenced then reported.departed n (s.sched n) s.timebase.count else reported },
      .done) := by
  have left : axisRecord n .config ((s.forgetReturned n).setAxis n ((s.axis n).reconfigure c m)) =
      { s.forgetReturned n with
        axes := s.axes.set n ((s.axis n).reconfigure c m)
        queue := s.queue.offer s.queue.enables.axis
          ⟨.axis .unreferenced .config 0, s.timebase.count, [((s.axis n).reconfigure c m).posWord n]⟩ } := by
    rw [axisRecord_eq, State.setAxis_axis_same]
    rfl
  have stopped : (s.sched n).departed.state ≠ .running := by simp [Schedule.departed, hs]
  unfold carryAxisConfig
  simp only [hs, ha, hg, and_self, if_true, left, departIf_eq]
  rw [jump_idle]
  · rfl
  · by_cases hr : (s.axis n).ref = .referenced
    · simp only [hr, if_true, State.sched, Fin.getElem_fin, Vector.getElem_set_self]
      exact stopped
    · simp only [hr, if_false]
      change (s.sched n).state ≠ .running
      simp [hs]

theorem carryAxisConfig_refused {c : AxisConfig} {m : AxisMode}
    (h : (s.sched n).state ≠ .stopped ∨ (s.sched n).active ≠ [] ∨ (s.sched n).staging ≠ []) :
    carryAxisConfig (n, c, m) s = (s, .bare .wrongState) := by
  refine if_neg fun ⟨stopped, active, staging⟩ => ?_
  rcases h with h | h | h
  · exact h stopped
  · exact h active
  · exact h staging

/-- AXIS_SET_POSITION up to its jump (R23). -/
theorem carrySetPosition_eq (p : Position) :
    carrySetPosition (n, p) s = (jump n { s with
      axes := s.axes.set n { s.axis n with position := p, ref := .referenced, errors := 0 }
      queue := s.queue.offer s.queue.enables.axis
        ⟨.axis .referenced .set 0, s.timebase.count, [⟨n, p.turn, BitVec.ofInt 32 p.value⟩]⟩ }, .done) := by
  simp only [carrySetPosition, axisRecord_eq, State.setAxis_axis_same]
  rfl

theorem carryHome_eq (h : HomingParams) :
    carryHome (n, h) s = ({ s with
      axes := s.axes.set n { s.axis n with homing := h, ref := .seeking h.source.firstSub }
      scheds := if (s.axis n).ref = .referenced then s.scheds.set n (s.sched n).departed else s.scheds
      queue := if (s.axis n).ref = .referenced then s.queue.departed n (s.sched n) s.timebase.count else s.queue },
      .bare .accepted) := by
  simp only [carryHome, departIf_eq]
  rfl

theorem carryHomeCancel_seeking {sub : HomingSub} (h : (s.axis n).ref = .seeking sub) :
    carryHomeCancel n s = ({ s with
      axes := s.axes.set n { s.axis n with ref := .unreferenced }
      queue := s.queue.offer s.queue.enables.axis
        ⟨.axis .unreferenced .homeCancelled (s.axis n).errors, s.timebase.count, [(s.axis n).posWord n]⟩ },
      .done) := by
  unfold carryHomeCancel
  simp only [h, axisRecord_eq, State.setAxis_axis_same]
  rfl

theorem carryHomeCancel_refused (h : ∀ sub, (s.axis n).ref ≠ .seeking sub) :
    carryHomeCancel n s = (s, .bare .wrongState) := by
  unfold carryHomeCancel
  cases hr : (s.axis n).ref with
  | seeking sub => exact absurd hr (h sub)
  | unreferenced => rfl
  | referenced => rfl
  | lost reason => rfl

end

end Sys2Proof.Machine

namespace Sys2Proof.Proofs

open Sys2Proof.Machine

/-- Settles O11: the arrival noted and reported, the slip judged, homing leaving it alone; the nearest revolution by
arithmetic. -/
theorem indexArrivalIsNotedAndJudgedBySlip : Obligations.IndexArrivalIsNotedAndJudgedBySlip := by
  refine ⟨?unchecked, ?checked, fun cpr angle turn k _ h =>
    ⟨(slipOf_range h).1, (slipOf_range h).2, slipOf_nearest h turn k⟩⟩
  case unchecked =>
    intro s n c hs low hc ignored linear u time
    refine congrArg Host.Outcome.next ((whenRunning_running _ hs).trans ?_)
    have none : (s.axis n).checked = none := Axis.checked_none linear
    have ignores : homingIndex n (u.arrived n) = u.arrived n := by
      refine homingIndex_ignores ?_
      rw [State.arrived_axis, State.takeIndex_axis_same]
      intro seeking
      rcases ignored seeking with trigger | away
      · exact .inl (congrArg HomingSource.onIndex trigger)
      · exact .inr (DirQualifier.accepts_eq_false away)
    rw [indexArrival_eq low hc, arrive_unchecked ((checked_takeIndex c).trans none), ignores, arrived_takeIndex c low,
      none, Axis.noted_unchecked none, Axis.indexItem_unchecked none, Axis.reportsIndex_unchecked,
      State.arrivalTime, State.takeIndex_axis_same]
  case checked =>
    intro s n c turn angle v hs low hc href hpos hv u x time clean beyond corrected noted reported
    have slip : (s.axis n).checked = some v := by
      rw [hv]
      exact Axis.checked_rotary href hpos
    have decided : (s.axis n).slipLost v = decide beyond ∧ (s.axis n).corrected v = decide corrected :=
      ⟨Axis.slipLost_eq v, Axis.corrected_eq v⟩
    have reports : (s.axis n).reportsIndex (some v) =
        match x.config.reporting with | .off => false | .all => true | .slipOnly => decide (¬clean) := by
      unfold Axis.reportsIndex
      simp only [Axis.clean_eq, clean, decide_not] <;> rfl
    have arrived : u.arrived n = { u with axes := s.axes.set n noted, queue := reported } := by
      rw [arrived_takeIndex c low, slip, Axis.noted_checked slip hpos, Axis.indexItem_checked slip hpos, reports,
        decided.2, Axis.clean_eq] <;> rfl
    have axis_a : (u.arrived n).axis n = noted := by
      rw [arrived]
      simp [State.axis]
    have judged : exec (.indexArrival n) s =
        .next (sendEvent (.index n) time (homingIndex n (checkArrival n v (u.arrived n)))) := by
      refine congrArg Host.Outcome.next ((whenRunning_running _ hs).trans ?_)
      rw [indexArrival_eq low hc, arrive_checked ((checked_takeIndex c).trans slip), State.arrivalTime,
        State.takeIndex_axis_same]
    refine ⟨fun notBeyond notCorrected => ?kept, fun isCorrected => ?corrected, fun isBeyond => ?lost⟩
    case kept =>
      rw [judged, checkArrival_kept, homingIndex_ignores, arrived]
      · rw [axis_a]
        exact fun seeking => absurd (href.symm.trans seeking) (by simp)
      · rw [axis_a]
        exact decided.1.trans (decide_eq_false notBeyond)
      · rw [axis_a]
        exact decided.2.trans (decide_eq_false notCorrected)
    case corrected =>
      intro moved
      have moves : (u.arrived n).setAxis n { noted with position := correctPosition v noted.position } =
          { u with axes := s.axes.set n moved, queue := reported } := by
        have position : correctPosition v noted.position = moved.position := congrArg (correctPosition v) hpos
        rw [position, arrived]
        simp [State.setAxis, moved]
      have jumped : jump n { u with axes := s.axes.set n moved, queue := reported } =
          { u with
            axes := s.axes.set n moved
            queue := reported
            scheds := if (s.sched n).state = .running then
                s.scheds.set n { s.sched n with active := (s.sched n).active.map fun e =>
                  { e with armed := decide ((s.sched n).h ≤ moved.distance e.position) } }
              else s.scheds } := by
        by_cases runs : (s.sched n).state = .running
        · rw [jump_moved (x := moved) (by simp) (by exact runs), if_pos runs]
          rfl
        · rw [jump_idle (by exact runs), if_neg runs]
          rfl
      rw [judged, checkArrival_corrected, axis_a, moves, jumped, homingIndex_ignores]
      · intro seeking
        have referenced : moved.ref = .referenced := href
        simp only [State.axis, Fin.getElem_fin, Vector.getElem_set_self] at seeking
        rw [referenced] at seeking
        cases seeking
      · rw [axis_a]
        exact decided.1.trans (decide_eq_false isCorrected.2.1)
      · rw [axis_a]
        exact decided.2.trans (decide_eq_true isCorrected)
    case lost =>
      have word : noted.posWord n = ⟨n, turn, BitVec.ofInt 32 angle⟩ := by
        have position : noted.position = .rotary turn angle := hpos
        rw [Axis.posWord, position]
        rfl
      rw [judged, checkArrival_lost, enterLost_referenced, homingIndex_ignores, axis_a, word, arrived]
      · simp only [Vector.set_set]
        rfl
      · rw [sendEvent_axis]
        simp [State.axis]
      · rw [axis_a]
        exact href
      · rw [axis_a]
        exact decided.1.trans (decide_eq_true isBeyond)

/-- Settles O13: each request passes the dispatch checks, and its operation's equation gives what it writes. -/
theorem axisRequestsSetTheReferenceAndReachTheSchedule :
    Obligations.AxisRequestsSetTheReferenceAndReachTheSchedule := by
  refine ⟨fun s r rest n h ha => ⟨?config, ?place, ?home, ?cancel⟩, ?departs, ?jumps⟩
  case config =>
    intro c m hop hl hr
    have length : RequestOp.axisConfig.lengthOk r.payload = true := decide_eq_true hl
    refine ⟨fun stopped active staging => ?_, fun busy => ?_⟩
    · have carried := carryAxisConfig_stopped (s := s.took rest) (n := n) (c := c) (m := m) stopped active staging
      have done := dispatch_carried (op := .axisConfig) (read := readAxisConfig) h hop (.inr ha) length hr carried rfl
      refine congrArg Host.Outcome.next (done.trans ?_)
      cases m <;> rfl
    · exact congrArg Host.Outcome.next (dispatch_status (op := .axisConfig) (read := readAxisConfig) h ha hop rfl
        length hr (carryAxisConfig_refused (s := s.took rest) busy))
  case place =>
    intro p hop hl hr idle
    have length : RequestOp.axisSetPosition.lengthOk r.payload = true := decide_eq_true hl
    have carried := carrySetPosition_eq (s := s.took rest) (n := n) p
    rw [jump_idle (by exact idle)] at carried
    exact congrArg Host.Outcome.next
      (dispatch_carried (op := .axisSetPosition) (read := readSetPosition) h hop (.inr ha) length hr carried rfl)
  case home =>
    intro p hop hl hr other
    have length : RequestOp.home.lengthOk r.payload = true := decide_eq_true hl
    have carried := carryHome_eq (s := s.took rest) (n := n) p
    have notReferenced : ¬((s.took rest).axis n).ref = .referenced := other
    simp only [if_neg notReferenced] at carried
    refine congrArg Host.Outcome.next
      ((dispatch_carried (op := .home) (read := readHome) h hop (.inr ha) length hr carried rfl).trans ?_)
    cases p.source <;> simp only [HomingSource.firstSub] <;> rfl
  case cancel =>
    intro hop hp
    have length : RequestOp.homeCancel.lengthOk r.payload = true := by rw [hp]; rfl
    have operands : readAxisOnly (s.took rest) r.payload = some n := by rw [hp]; exact readAxis_byteOf n
    refine ⟨fun sub seeking => ?_, fun other => ?_⟩
    · exact congrArg Host.Outcome.next (dispatch_carried (op := .homeCancel) h hop (.inr ha) length operands
        (carryHomeCancel_seeking (s := s.took rest) seeking) rfl)
    · exact congrArg Host.Outcome.next (dispatch_status (op := .homeCancel) h ha hop rfl length operands
        (carryHomeCancel_refused (s := s.took rest) other))
  case departs =>
    intro s r rest n p h ha hop hl hr referenced
    have length : RequestOp.home.lengthOk r.payload = true := decide_eq_true hl
    have carried := carryHome_eq (s := s.took rest) (n := n) p
    have isReferenced : ((s.took rest).axis n).ref = .referenced := referenced
    simp only [if_pos isReferenced] at carried
    refine congrArg Host.Outcome.next
      ((dispatch_carried (op := .home) (read := readHome) h hop (.inr ha) length hr carried rfl).trans ?_)
    cases p.source <;> simp only [HomingSource.firstSub] <;> rfl
  case jumps =>
    intro s r rest n p h ha hop hl hr runs placed
    have length : RequestOp.axisSetPosition.lengthOk r.payload = true := decide_eq_true hl
    have carried := carrySetPosition_eq (s := s.took rest) (n := n) p
    rw [jump_moved (x := placed) (by rw [Fin.getElem_fin, Vector.getElem_set_self]; rfl) (by exact runs)] at carried
    exact congrArg Host.Outcome.next
      (dispatch_carried (op := .axisSetPosition) (read := readSetPosition) h hop (.inr ha) length hr carried rfl)

end Sys2Proof.Proofs
end

section
/-! SUPPORT and the settling of O12 and O30. A trigger edge by its selection and holdoff, its delivery to an axis that
homes on the input, and what homing makes of it. -/

namespace Sys2Proof.Machine

section
variable {n m : AxisId} {k : TriggerId} {s : State}

/-! ### Homing on an edge -/

theorem OnAxis.completeHoming (n : AxisId) (s : State) : OnAxis n s (completeHoming n s) :=
  (((OnAxis.refl n s).setAxis _).axisRecord _).jump

theorem homingEdge_frame (k : TriggerId) (s : State) (n : AxisId) : OnAxis n s (homingEdge k s n) := by
  unfold homingEdge
  simp only
  split
  · split
    · exact (OnAxis.refl n s).setAxis _
    · exact .refl n s
  · split
    · exact .completeHoming n s
    · exact .refl n s
  · exact .refl n s

theorem OnAxis.axis_ne {t : State} (h : OnAxis n s t) (hm : m ≠ n) : t.axis m = s.axis m := by
  obtain ⟨_, x, _, _, _, _, rfl⟩ := h
  exact State.setAxis_axis_ne s n x hm

theorem OnAxis.noRouteOn {t : State} {e : EventSource} (h : OnAxis n s t) (hr : NoRouteOn s e) : NoRouteOn t e := by
  obtain ⟨_, _, _, _, _, _, rfl⟩ := h
  exact hr

/-- An axis that homes on the index or on another input ignores the edge (R20). -/
theorem homingEdge_other (h : (s.axis n).homing.source = .index ∨ (s.axis n).homing.input ≠ k) :
    homingEdge k s n = s := by
  unfold homingEdge
  rcases h with index | other
  · simp only [index]
    split <;> simp_all
  · simp only [other, false_and, if_false]
    split <;> rfl

theorem foldl_homingEdge_others (ns : List AxisId)
    (h : ∀ n ∈ ns, (s.axis n).homing.source = .index ∨ (s.axis n).homing.input ≠ k) :
    ns.foldl (homingEdge k) s = s := by
  induction ns with
  | nil => rfl
  | cons n ns ih =>
    rw [List.foldl_cons, homingEdge_other (h n (by simp))]
    exact ih fun m hm => h m (List.mem_cons_of_mem n hm)

/-- An edge that does nothing for the homing of its axis (R20). -/
theorem homingEdge_ignores (h : (∀ sub, (s.axis n).ref ≠ .seeking sub) ∨
      ((s.axis n).ref = .seeking .awaitReference ∧ (s.axis n).homing.source = .triggerThenIndex) ∨
      ((s.axis n).ref = .seeking .awaitReference ∧ (s.axis n).homing.source = .trigger ∧
        (s.axis n).homing.qualifier.accepts (s.axis n).lastDir = false)) : homingEdge k s n = s := by
  unfold homingEdge
  rcases h with idle | ⟨href, hsrc⟩ | ⟨href, hsrc, away⟩
  · simp only
    split
    · exact absurd ‹_› (idle _)
    · exact absurd ‹_› (idle _)
    · rfl
  · simp only [href, hsrc]
  · simp only [href, hsrc, away, Bool.false_eq_true, and_false, if_false]

theorem homingEdge_opens (hr : (s.axis n).ref = .seeking .awaitGate)
    (hs : (s.axis n).homing.source = .triggerThenIndex) (hi : (s.axis n).homing.input = k) :
    homingEdge k s n = s.setAxis n { s.axis n with ref := .seeking .awaitReference } := by
  simp only [homingEdge, hr, hs, hi, if_true]

theorem homingEdge_completes (hr : (s.axis n).ref = .seeking .awaitReference)
    (hs : (s.axis n).homing.source = .trigger) (hi : (s.axis n).homing.input = k)
    (hq : (s.axis n).homing.qualifier.accepts (s.axis n).lastDir = true) : homingEdge k s n = completeHoming n s := by
  simp only [homingEdge, hr, hs, hi, hq, and_self, if_true]

/-! ### The delivery of an edge (R102) -/

theorem deliverEdge_unheard {edge : Edge} {time : Ticks} (before after : List AxisId)
    (hr : NoRouteOn s (.trig k edge)) (hn : NoHomingOn s k) : deliverEdge k edge time before after s = s := by
  have unheard : ∀ ns : List AxisId, ns.foldl (homingEdge k) s = s := fun ns =>
    foldl_homingEdge_others ns fun n _ => hn n
  rw [deliverEdge, unheard, sendEvent_of_no_route time hr, unheard]

/-- With one axis homing on the input, the edge is an edge for that axis, wherever it stands in the order. -/
theorem deliverEdge_one {edge : Edge} {time : Ticks} (first : Bool) (hr : NoRouteOn s (.trig k edge))
    (ho : ∀ m, m ≠ n → (s.axis m).homing.source = .index ∨ (s.axis m).homing.input ≠ k) :
    deliverEdge k edge time (if first then [n] else []) (if first then [] else [n]) s = homingEdge k s n := by
  have frame := homingEdge_frame k s n
  have others : ∀ ns : List AxisId, (∀ m ∈ ns, m ≠ n) → ns.foldl (homingEdge k) (homingEdge k s n) = homingEdge k s n := by
    intro ns hne
    refine foldl_homingEdge_others ns fun m hm => ?_
    rw [frame.axis_ne (hne m hm)]
    exact ho m (hne m hm)
  unfold deliverEdge axesAfter
  cases first with
  | true =>
    simp only [if_true, List.foldl_cons, List.foldl_nil, List.nil_append, List.append_nil]
    rw [sendEvent_of_no_route time (frame.noRouteOn hr)]
    exact others _ fun m hm => by simpa using (List.mem_filter.mp hm).2
  | false =>
    simp only [Bool.false_eq_true, if_false, List.foldl_nil, List.nil_append]
    rw [sendEvent_of_no_route time hr, List.foldl_append, List.foldl_cons, List.foldl_nil]
    exact others _ fun m hm => by simpa using (List.mem_filter.mp hm).2

/-! ### An edge (R98 to R101) -/

theorem triggerEdge_eq {c : LineChange} (before after : List AxisId)
    (hc : heldEdge ((s.trigger k).filter * 10) (s.triggerWire k) = some c) :
    triggerEdge k before after s = takeEdge k before after ((s.runTo c.time).setTriggerWire k c.left) := by
  have held : heldEdge (s.trigger k).filterTicks (s.triggerWire k) = some c := hc
  simp only [triggerEdge, held]

theorem triggerEdge_none (before after : List AxisId)
    (hc : heldEdge ((s.trigger k).filter * 10) (s.triggerWire k) = none) : triggerEdge k before after s = s := by
  have held : heldEdge (s.trigger k).filterTicks (s.triggerWire k) = none := hc
  simp only [triggerEdge, held]

theorem selects_edge (t : Trigger) : t.selection.selects (Level.edge t.level.flip) =
    match t.selection, t.level with | .both, _ => true | .rise, .low => true | .fall, .high => true | _, _ => false := by
  cases t.selection <;> cases t.level <;> rfl

theorem selects_of_selected {t : Trigger} (h : t.Selected) : t.selection.selects (Level.edge t.level.flip) = true := by
  unfold Trigger.Selected at h
  cases hs : t.selection <;> cases hl : t.level <;> simp_all [EdgeSelection.selects, Level.flip, Level.edge]

theorem takeEdge_unselected (before after : List AxisId)
    (h : (s.trigger k).selection.selects (Level.edge (s.trigger k).level.flip) = false) :
    takeEdge k before after s = s.setTrigger k { s.trigger k with level := (s.trigger k).level.flip } := by
  simp only [takeEdge, h, Bool.false_eq_true, if_false]

theorem takeEdge_heldOff {e : Nat} (before after : List AxisId)
    (h : (s.trigger k).selection.selects (Level.edge (s.trigger k).level.flip) = true)
    (he : (s.trigger k).holdoffEnd = some e) :
    takeEdge k before after s = s.setTrigger k { s.trigger k with
      level := (s.trigger k).level.flip, heldOff := min ((s.trigger k).heldOff + 1) 65535 } := by
  simp only [takeEdge, h, he, if_true]
  rfl

/-- An accepted edge is counted and delivered, with the time at which it appeared on the line (R100, R101). -/
theorem takeEdge_accepts (before after : List AxisId)
    (h : (s.trigger k).selection.selects (Level.edge (s.trigger k).level.flip) = true)
    (he : (s.trigger k).holdoffEnd = none) :
    takeEdge k before after s = deliverEdge k (Level.edge (s.trigger k).level.flip)
      ((s.trigger k).edgeTime s.timebase.count) before after (s.setTrigger k ((s.trigger k).acceptedAt s.now)) := by
  simp only [takeEdge, h, he, if_true]
  rfl

theorem rejectedPulse_eq {c : LineChange}
    (hc : rejectedReturn ((s.trigger k).filter * 10) (s.triggerWire k) = some c) :
    rejectedPulse k s = ((s.runTo c.time).setTriggerWire k c.left).setTrigger k { s.trigger k with
      filtered := if (s.trigger k).selection = .off then (s.trigger k).filtered
        else min ((s.trigger k).filtered + 1) 65535 } := by
  have returned : rejectedReturn (s.trigger k).filterTicks (s.triggerWire k) = some c := hc
  simp only [rejectedPulse, returned]
  rfl

theorem holdoffExpiry_eq {e : Nat} (he : (s.trigger k).holdoffEnd = some e) :
    holdoffExpiry k s = (s.runTo e).setTrigger k { s.trigger k with holdoffEnd := none } := by
  simp only [holdoffExpiry, he]

end

end Sys2Proof.Machine

namespace Sys2Proof.Proofs

open Sys2Proof.Machine

/-- Settles O12: the index arrival completes homing; the edge reaches its one axis, whose homing has three cases. -/
theorem homingCompletesOnItsIndexOrTriggerEdge : Obligations.HomingCompletesOnItsIndexOrTriggerEdge := by
  constructor
  · intro s n c hs low hc href source accepts idle u time p reported
    refine congrArg Host.Outcome.next ((whenRunning_running _ hs).trans ?_)
    have none : (s.axis n).checked = none := Axis.checked_none (by simp [href])
    have onIndex : (s.axis n).homing.source.onIndex = true := by rcases source with h | h <;> rw [h] <;> rfl
    have axis_a : (u.arrived n).axis n =
        { (s.axis n).noted with decoder := { (s.axis n).decoder with index := .high } } := by
      rw [State.arrived_axis, State.takeIndex_axis_same, low]
      rfl
    have completes : homingIndex n (u.arrived n) = completeHoming n (u.arrived n) :=
      homingIndex_completes (by rw [axis_a]; exact href) (by rw [axis_a]; exact onIndex)
        (by rw [axis_a]; exact DirQualifier.accepts_eq_true accepts)
    rw [indexArrival_eq low hc, arrive_unchecked ((checked_takeIndex c).trans none), completes,
      completeHoming_idle (by exact idle), axis_a, arrived_takeIndex c low, none, Axis.noted_unchecked none,
      Axis.indexItem_unchecked none, Axis.reportsIndex_unchecked, State.arrivalTime, State.takeIndex_axis_same,
      Vector.set_set, RecordQueue.offer_enables]
    rfl
  · intro s k n first c hs hc routes selected free others input before after u turned
    have selects := selects_of_selected selected
    let v : State := { u with triggers := turned }
    have delivered : exec (.triggerEdge k before after) s = .next (homingEdge k v n) := by
      refine congrArg Host.Outcome.next ((whenRunning_running _ hs).trans ?_)
      rw [triggerEdge_eq before after hc, takeEdge_accepts (s := u) before after selects free]
      exact deliverEdge_one (s := v) first (routes _) others
    refine ⟨fun idle => ?_, fun gate source => ?_, fun reference source stopped accepts => ?_⟩
    · rw [delivered, homingEdge_ignores]
      rcases idle with idle | idle | ⟨reference, source, away⟩
      · exact .inl idle
      · exact .inr (.inl idle)
      · exact .inr (.inr ⟨reference, source, DirQualifier.accepts_eq_false away⟩)
    · rw [delivered, homingEdge_opens (s := v) gate source input]
      rfl
    · intro p
      rw [delivered, homingEdge_completes (s := v) reference source input (DirQualifier.accepts_eq_true accepts),
        completeHoming_idle (s := v) stopped]
      rfl

/-- Settles O30: the cases of the selection and the holdoff; a rejected pulse and the end of a holdoff. -/
theorem triggerFilterSelectionAndHoldoff : Obligations.TriggerFilterSelectionAndHoldoff := by
  refine ⟨fun s k before after hs hr hn => ⟨fun c hc => ?edge, fun hc => ?still⟩,
    fun s k hs => ⟨fun c hc => ?rejected, fun hc => ?kept, fun e he => ?expiry⟩⟩
  case edge =>
    intro u with_ selected
    have taken : exec (.triggerEdge k before after) s = .next (takeEdge k before after u) :=
      congrArg Host.Outcome.next ((whenRunning_running _ hs).trans (triggerEdge_eq before after hc))
    have selects : (u.trigger k).selection.selects (Level.edge (u.trigger k).level.flip) = selected :=
      selects_edge _
    refine ⟨fun off => ?_, fun e on he => ?_, fun on he => ?_⟩
    · rw [taken, takeEdge_unselected (s := u) before after (selects.trans off)]
      rfl
    · rw [taken, takeEdge_heldOff (s := u) before after (selects.trans on) he]
      rfl
    · rw [taken, takeEdge_accepts (s := u) before after (selects.trans on) he,
        deliverEdge_unheard (s := u.setTrigger k ((u.trigger k).acceptedAt u.now)) before after (hr _) hn]
      rfl
  case still => exact congrArg Host.Outcome.next ((whenRunning_running _ hs).trans (triggerEdge_none before after hc))
  case rejected =>
    intro u
    have taken : exec (.triggerRejectedPulse k) s = .next (rejectedPulse k s) :=
      congrArg Host.Outcome.next (whenRunning_running _ hs)
    refine ⟨fun on => ?_, fun off => ?_⟩
    · rw [taken, rejectedPulse_eq hc, if_neg on]
      rfl
    · rw [taken, rejectedPulse_eq hc, if_pos off]
      exact congrArg Host.Outcome.next (State.setTrigger_self (s := u) k)
  case kept =>
    refine congrArg Host.Outcome.next ((whenRunning_running _ hs).trans ?_)
    have none : rejectedReturn (s.trigger k).filterTicks (s.triggerWire k) = none := hc
    simp only [rejectedPulse, none]
  case expiry => exact congrArg Host.Outcome.next ((whenRunning_running _ hs).trans (holdoffExpiry_eq he))

end Sys2Proof.Proofs
end

section
/-! SUPPORT and the settling of O15 and O18. The place of a batch in the staging list, position by position, and a
commit that takes effect, by one equation. -/

namespace Sys2Proof.Machine

/-! ### The places of a batch -/

/-- An entry stands after every entry at or below its position (R32). -/
theorem placeEntry_between (e : Entry) {below above : List Entry} (hb : ∀ x ∈ below, x.position ≤ e.position)
    (ha : ∀ x ∈ above, e.position < x.position) : placeEntry e (below ++ above) = below ++ e :: above := by
  induction below with
  | nil =>
    cases above with
    | nil => rfl
    | cons x xs => exact if_neg (not_le.mpr (ha x List.mem_cons_self))
  | cons x xs ih =>
    obtain ⟨hx, hxs⟩ := List.forall_mem_cons.mp hb
    have rest := ih hxs
    rw [List.cons_append, placeEntry, if_pos hx, rest, List.cons_append]

/-- At its own position a placed entry comes last, and the entries of the other positions stay (R32). -/
theorem placeEntry_filter (e : Entry) (p : Int) {l : List Entry} (h : l.Pairwise fun x y => x.position ≤ y.position) :
    (placeEntry e l).filter (fun x => x.position = p) =
      l.filter (fun x => x.position = p) ++ [e].filter (fun x => x.position = p) := by
  induction l with
  | nil => rfl
  | cons x xs ih =>
    obtain ⟨hx, hxs⟩ := List.pairwise_cons.mp h
    unfold placeEntry
    split
    · simp only [List.filter_cons, ih hxs]
      split <;> rfl
    · rename_i above
      by_cases hp : e.position = p
      · have none : (x :: xs).filter (fun y => y.position = p) = [] := by
          refine List.filter_eq_nil_iff.mpr fun y hy => ?_
          have le : x.position ≤ y.position := by
            rcases List.mem_cons.mp hy with rfl | hy
            · exact le_refl _
            · exact hx y hy
          simp only [decide_eq_true_eq]
          omega
        rw [List.filter_cons_of_pos (by simp [hp]), none]
        simp [hp]
      · rw [List.filter_cons_of_neg (by simp [hp])]
        simp [hp]

/-- At each position the entries already there come first, and those of the batch follow in batch order (R32). -/
theorem placeBatch_filter (batch : List Entry) (p : Int) {l : List Entry}
    (h : l.Pairwise fun x y => x.position ≤ y.position) :
    (placeBatch batch l).filter (fun x => x.position = p) =
      l.filter (fun x => x.position = p) ++ batch.filter (fun x => x.position = p) := by
  induction batch generalizing l with
  | nil => simp [placeBatch]
  | cons e es ih =>
    calc _ = (placeEntry e l).filter (fun x => x.position = p) ++ es.filter (fun x => x.position = p) :=
          ih (placeEntry_sorted e h)
      _ = l.filter (fun x => x.position = p) ++ ([e].filter (fun x => x.position = p) ++
            es.filter (fun x => x.position = p)) := by rw [placeEntry_filter e p h, List.append_assoc]
      _ = _ := by rw [← List.filter_append]; rfl

section
variable {n : AxisId} {s : State} {batch : List Entry}

theorem carryStageAdd_pending (h : (s.sched n).commit ≠ none) :
    carryStageAdd (n, batch) s = stagingAnswer n .wrongState s :=
  if_pos (Option.isSome_iff_ne_none.mpr h)

theorem carryStageAdd_duplicate (h : (s.sched n).commit = none) (hd : duplicateTag batch (s.sched n).staging = true) :
    carryStageAdd (n, batch) s = stagingAnswer n .dupTag s := by
  simp [carryStageAdd, h, hd]

theorem carryStageAdd_noSpace (h : (s.sched n).commit = none) (hd : duplicateTag batch (s.sched n).staging = false)
    (hf : s.free < batch.length) : carryStageAdd (n, batch) s = stagingAnswer n .noSpace s := by
  simp [carryStageAdd, h, hd, hf]

theorem carryStageAdd_fits (h : (s.sched n).commit = none) (hd : duplicateTag batch (s.sched n).staging = false)
    (hf : batch.length ≤ s.free) : carryStageAdd (n, batch) s = stagingAnswer n .ok
      (s.restage n (s.free - batch.length) (placeBatch batch (s.sched n).staging)) := by
  simp [carryStageAdd, h, hd, not_lt.mpr hf, State.restage]

end

/-- A tag of the batch is used twice, or stands in the staging list (R34). -/
theorem duplicateTag_eq_true {batch staging : List Entry} :
    duplicateTag batch staging = true ↔
      ¬(batch.map Entry.tag).Nodup ∨ ∃ e ∈ batch, e.tag ∈ staging.map Entry.tag := by
  simp only [duplicateTag, Bool.or_eq_true, Bool.not_eq_true', decide_eq_false_iff_not, List.any_eq_true,
    decide_eq_true_eq, List.mem_map]

/-- One entry that carries no tag of the list. -/
theorem duplicateTag_single {e : Entry} {staging : List Entry} (h : ∀ x ∈ staging, x.tag ≠ e.tag) :
    duplicateTag [e] staging = false :=
  duplicateTag_eq_false.mpr ⟨List.nodup_singleton _, fun x hx => by rw [List.mem_singleton.mp hx]; exact h⟩

theorem readEntries_length {a : Axis} {k : Nat} {bs : List Byte} {es : List Entry} (h : readEntries a k bs = some es) :
    es.length = k := by
  induction k generalizing bs es with
  | zero => injection h with h; rw [← h]; rfl
  | succ k ih =>
    simp only [readEntries, Option.bind_eq_bind, Option.bind_eq_some_iff, Option.some.injEq] at h
    obtain ⟨e, -, rest, hr, rfl⟩ := h
    rw [List.length_cons, ih hr]

/-- The length of a STAGE_ADD payload is that of its batch (Table 10-4). -/
theorem readStageAdd_lengthOk {s : State} {b : List Byte} {n : AxisId} {es : List Entry}
    (h : readStageAdd s b = some (n, es)) (hl : b.length = 2 + 14 * es.length) :
    RequestOp.stageAdd.lengthOk b = true := by
  match b, h with
  | [], h => cases h
  | [_], h => cases h
  | n :: c :: rest, h =>
    simp only [readStageAdd, Option.bind_eq_bind, Option.bind_eq_some_iff, Option.some.injEq, Prod.mk.injEq] at h
    obtain ⟨_, -, count, hc, entries, he, -, rfl⟩ := h
    have counted : count = c.toNat := by
      unfold readRange at hc
      split at hc
      · injection hc with hc; exact hc.symm
      · cases hc
    rw [readEntries_length he, counted] at hl
    exact decide_eq_true hl

/-! ### A commit that takes effect -/

/-- The list that a commit installs, and the state of the schedule that follows (R67, Table 3-3). -/
theorem installList_eq (n : AxisId) (run : Bool) (s : State) :
    installList n run s = { s with
      free := s.free + (s.sched n).active.length
      scheds := s.scheds.set n { s.sched n with
        active := listArmed (s.axis n) (s.sched n).h (s.sched n).staging
        staging := []
        commit := none
        state := stateAfterCommit (s.sched n).state (listArmed (s.axis n) (s.sched n).h (s.sched n).staging) run
          (decide ((s.axis n).ref = .referenced)) }
      queue := s.queue.offer s.queue.enables.schedule
        ⟨.schedule n .committed (listArmed (s.axis n) (s.sched n).h (s.sched n).staging).length, s.timebase.count, []⟩ } := by
  unfold installList
  rw [schedRecord_eq]
  simp [State.setSched, State.setFree, State.sched, listArmed, armAll]

/-- The completion of a schedule (R61). -/
theorem completeIfEmpty_done {n : AxisId} {s : State} (hr : (s.sched n).state = .running) (he : (s.sched n).active = []) :
    completeIfEmpty n s = ({ s with
      scheds := s.scheds.set n { s.sched n with state := .stopped }
      queue := s.queue.offer s.queue.enables.schedule ⟨.schedule n .done 0, s.timebase.count, []⟩ },
      [⟨.schedDone n, s.timebase.count⟩]) := by
  unfold completeIfEmpty
  rw [if_pos ⟨hr, he⟩, schedRecord_eq]
  have empty : ((stopSchedule n s).sched n).active = [] := by rw [stopSchedule, State.setSched_sched_same, he]
  rw [empty]
  rfl

theorem completeIfEmpty_not {n : AxisId} {s : State} (h : ¬((s.sched n).state = .running ∧ (s.sched n).active = [])) :
    completeIfEmpty n s = (s, []) := if_neg h

/-- A schedule is RUNNING after a commit when it was, or when it starts by its run flag (Table 3-3). -/
theorem stateAfterCommit_eq (old : SchedState) (new : List Entry) (run : Bool) (ref : RefState) :
    stateAfterCommit old new run (decide (ref = .referenced)) =
      if old = .stopped ∧ new ≠ [] ∧ run = true ∧ ref = .referenced then .running else old := by
  cases old with
  | running => rfl
  | held => rfl
  | stopped =>
    have flags : (run && decide (ref = .referenced) && !new.isEmpty) = true ↔
        new ≠ [] ∧ run = true ∧ ref = .referenced := by
      simp only [Bool.and_eq_true, decide_eq_true_eq, Bool.not_eq_true', List.isEmpty_eq_false_iff]
      tauto
    simp only [stateAfterCommit, flags, true_and]

/-- A commit that is taken outside a count installs the staging list, and completes a RUNNING schedule that it leaves
without entries (R61, R67, Table 3-3). -/
theorem takeCommit_eq (n : AxisId) (run : Bool) (s : State) :
    let x := s.sched n
    let new := listArmed (s.axis n) x.h x.staging
    let committed := s.queue.offer s.queue.enables.schedule ⟨.schedule n .committed new.length, s.timebase.count, []⟩
    let starts := x.state = .stopped ∧ new ≠ [] ∧ run = true ∧ (s.axis n).ref = .referenced
    let done := x.state = .running ∧ new = []
    takeCommit n run s = ({ s with
      free := s.free + x.active.length
      scheds := s.scheds.set n { x with
        active := new, staging := [], commit := none
        state := if starts then .running else if done then .stopped else x.state }
      queue := if done then
          committed.offer s.queue.enables.schedule ⟨.schedule n .done 0, s.timebase.count, []⟩
        else committed }, if done then [⟨.schedDone n, s.timebase.count⟩] else []) := by
  intro x new committed starts done
  have installed : installList n run s = { s with
      free := s.free + x.active.length
      scheds := s.scheds.set n { x with
        active := new, staging := [], commit := none, state := if starts then .running else x.state }
      queue := committed } := by
    rw [installList_eq, stateAfterCommit_eq]
  have sched : (installList n run s).sched n = { x with
      active := new, staging := [], commit := none, state := if starts then .running else x.state } := by
    rw [installed]
    simp [State.sched]
  unfold takeCommit
  by_cases hd : done
  · obtain ⟨hr, he⟩ := hd
    have held : ¬starts := fun h => absurd (hr.symm.trans h.1) (by decide)
    have enables : committed.enables = s.queue.enables := RecordQueue.offer_enables _ _ _
    rw [completeIfEmpty_done (by rw [sched]; simp only [held, if_false, hr]) (by rw [sched]; exact he), sched, installed]
    simp only [if_neg held, if_pos (show done from ⟨hr, he⟩), Vector.set_set, enables]
  · have stays : ¬((if starts then SchedState.running else x.state) = .running ∧ new = []) := by
      rintro ⟨hr, he⟩
      have held : ¬starts := fun h => h.2.1 he
      rw [if_neg held] at hr
      exact hd ⟨hr, he⟩
    rw [completeIfEmpty_not (by rw [sched]; exact stays), installed]
    simp only [if_neg hd]

section
variable {n : AxisId} {run : Bool} {s : State}

theorem carryCommit_pending (mode : CommitMode) (h : (s.sched n).commit ≠ none) :
    carryCommit (n, mode, run) s = (s, .of .wrongState []) := if_pos (Option.isSome_iff_ne_none.mpr h)

theorem carryCommit_atTrigger (h : (s.sched n).commit = none) :
    carryCommit (n, .atTrigger, run) s =
      (s.setSched n { s.sched n with commit := some (.atTrigger run) }, .of .ok []) := by
  simp [carryCommit, h]
  rfl

theorem carryCommit_atPosition (p : Int) (h : (s.sched n).commit = none) (hr : (s.axis n).ref = .referenced) :
    carryCommit (n, .atPosition p, run) s =
      (s.setSched n { s.sched n with commit := some (.atPosition p run) }, .of .ok []) := by
  simp [carryCommit, h, hr]
  rfl

theorem carryCommit_notReferenced (p : Int) (h : (s.sched n).commit = none) (hr : (s.axis n).ref ≠ .referenced) :
    carryCommit (n, .atPosition p, run) s = (s, .of .notReferenced []) := by
  simp [carryCommit, h, hr]
  rfl

theorem carryCommit_now (h : (s.sched n).commit = none) :
    carryCommit (n, .now, run) s = (sendEvents (takeCommit n run s).2 (takeCommit n run s).1, .of .ok []) := by
  simp [carryCommit, h]
  rfl

theorem carryCommitCancel_none (h : (s.sched n).commit = none) : carryCommitCancel n s = (s, .of .noEntry []) := by
  simp [carryCommitCancel, h]
  rfl

end

/-- The source events of a step that may complete a schedule (R61, R106). -/
theorem sendEvents_if {c : Prop} [Decidable c] (source : EventSource) (time : Ticks) (s : State) :
    sendEvents (if c then [⟨source, time⟩] else []) s = if c then sendEvent source time s else s := by
  split
  · rfl
  · exact sendEvents_nil s

theorem sendEvent_link (source : EventSource) (time : Ticks) (s : State) : (sendEvent source time s).link = s.link := by
  obtain ⟨_, _, _, _, _, -, he⟩ := sendEvent_frame source time s
  rw [he]

end Sys2Proof.Machine

namespace Sys2Proof.Proofs

open Sys2Proof.Machine

/-- Settles O15: the checks of STAGE_ADD in their order, and the place of one entry and of a batch. -/
theorem stageAddIsPlacedAllOrNone : Obligations.StageAddIsPlacedAllOrNone := by
  refine ⟨?single, ?batch⟩
  case single =>
    intro s r rest n e h ha hop hl hr
    have length : RequestOp.stageAdd.lengthOk r.payload = true := readStageAdd_lengthOk hr hl
    have read : readStageAdd (s.took rest) r.payload = some (n, [e]) := hr
    refine ⟨fun hc => ?pending, fun hc hd => ?duplicate, fun hc hd hf => ?noSpace, ?placed⟩
    case pending =>
      exact congrArg Host.Outcome.next (dispatch_staging_refused h ha hop rfl length read (carryStageAdd_pending hc))
    case duplicate =>
      obtain ⟨x, hx, ht⟩ := hd
      have clash : duplicateTag [e] (s.sched n).staging = true :=
        duplicateTag_eq_true.mpr (.inr ⟨e, List.mem_singleton_self e, List.mem_map.mpr ⟨x, hx, ht⟩⟩)
      exact congrArg Host.Outcome.next (dispatch_staging_refused h ha hop rfl length read
        (carryStageAdd_duplicate hc clash))
    case noSpace =>
      have full : s.free < [e].length := by rw [hf]; exact Nat.one_pos
      exact congrArg Host.Outcome.next (dispatch_staging_refused h ha hop rfl length read
        (carryStageAdd_noSpace hc (duplicateTag_single hd) full))
    case placed =>
      intro below above hc hd hf hs hb hab
      have fits : [e].length ≤ s.free := Nat.one_le_iff_ne_zero.mpr hf
      have placed : placeBatch [e] (s.sched n).staging = below ++ e :: above := by
        rw [hs]
        exact placeEntry_between e hb hab
      have carried : carryStageAdd (n, [e]) (s.took rest) = stagingAnswer n .ok
          ((s.took rest).restage n (s.free - 1) (below ++ e :: above)) := by
        rw [← placed]
        exact carryStageAdd_fits hc (duplicateTag_single hd) fits
      rw [show below.length + above.length + 1 = (below ++ e :: above).length by
        rw [List.length_append, List.length_cons, Nat.add_assoc]]
      exact congrArg Host.Outcome.next (dispatch_staging_done h ha hop rfl length read carried)
  case batch =>
    intro s r rest n batch h ha hop hl hr hs tags clash refused
    have length : RequestOp.stageAdd.lengthOk r.payload = true := readStageAdd_lengthOk hr hl
    have read : readStageAdd (s.took rest) r.payload = some (n, batch) := hr
    have distinct (hd : ¬clash) : duplicateTag batch (s.sched n).staging = false :=
      Bool.eq_false_iff.mpr fun ht => hd (duplicateTag_eq_true.mp ht)
    refine ⟨fun hc => ?pending, fun hc hd => ?duplicate, fun hc hd hf => ?noSpace, fun hc hd hf => ?placed⟩
    case pending =>
      exact congrArg Host.Outcome.next (dispatch_staging_refused h ha hop rfl length read (carryStageAdd_pending hc))
    case duplicate =>
      exact congrArg Host.Outcome.next (dispatch_staging_refused h ha hop rfl length read
        (carryStageAdd_duplicate hc (duplicateTag_eq_true.mpr hd)))
    case noSpace =>
      exact congrArg Host.Outcome.next (dispatch_staging_refused h ha hop rfl length read
        (carryStageAdd_noSpace hc (distinct hd) hf))
    case placed =>
      exact ⟨placeBatch batch (s.sched n).staging, placeBatch_sorted batch hs, fun p => placeBatch_filter batch p hs,
        length_placeBatch batch _, congrArg Host.Outcome.next (dispatch_staging_done h ha hop rfl length read
          (carryStageAdd_fits hc (distinct hd) hf))⟩

/-- Settles O18: COMMIT by its mode and the state of its schedule, and COMMIT_CANCEL. -/
theorem commitPendsTakesEffectOrIsWithdrawn : Obligations.CommitPendsTakesEffectOrIsWithdrawn := by
  refine ⟨?commit, ?now, ?cancel⟩
  case commit =>
    intro s r rest n mode run h ha hop hl hr
    have length : RequestOp.commit.lengthOk r.payload = true := decide_eq_true hl
    have read : readCommit (s.took rest) r.payload = some (n, mode, run) := hr
    refine ⟨fun hc => ?pending, fun hc hm => ?atTrigger, fun p hc hm href => ?atPosition, fun p hc hm href => ?refused⟩
    case pending =>
      exact congrArg Host.Outcome.next (dispatch_status h ha hop rfl length read (carryCommit_pending mode hc))
    case atTrigger =>
      subst hm
      exact congrArg Host.Outcome.next (dispatch_sched_done h ha hop rfl length read (carryCommit_atTrigger hc))
    case atPosition =>
      subst hm
      exact congrArg Host.Outcome.next (dispatch_sched_done h ha hop rfl length read (carryCommit_atPosition p hc href))
    case refused =>
      subst hm
      exact congrArg Host.Outcome.next (dispatch_status h ha hop rfl length read (carryCommit_notReferenced p hc href))
  case now =>
    intro s r rest n run h ha hop hl hr hc new committed runs done installed
    have length : RequestOp.commit.lengthOk r.payload = true := decide_eq_true hl
    have read : readCommit (s.took rest) r.payload = some (n, .now, run) := hr
    have carried : carryCommit (n, .now, run) (s.took rest) =
        (if done then sendEvent (.schedDone n) s.timebase.count installed else installed, .of .ok []) := by
      have enables : committed.enables = s.queue.enables := RecordQueue.offer_enables _ _ _
      rw [carryCommit_now (by exact hc), takeCommit_eq, sendEvents_if]
      simp only [installed, enables, hc]
      rfl
    have waiting : (if done then sendEvent (.schedDone n) s.timebase.count installed else installed).link.waiting = rest := by
      split
      · rw [sendEvent_link]
      · rfl
    have replied := dispatch_carried (op := .commit) h hop (.inr ha) length read carried rfl
    rw [waiting] at replied
    exact congrArg Host.Outcome.next replied
  case cancel =>
    intro s r rest n h ha hop hp
    have length : RequestOp.commitCancel.lengthOk r.payload = true := by rw [hp]; rfl
    have read : readAxisOnly (s.took rest) r.payload = some n := by rw [hp]; exact readAxis_byteOf n
    refine ⟨fun hc => ?withdrawn, fun hc => ?noEntry⟩
    case withdrawn =>
      have carried : carryCommitCancel n (s.took rest) = (cancelCommit n (s.took rest), .of .ok []) :=
        if_pos (Option.isSome_iff_ne_none.mpr hc)
      rw [cancelCommit_eq] at carried
      exact congrArg Host.Outcome.next (dispatch_carried (op := .commitCancel) h hop (.inr ha) length read carried rfl)
    case noEntry =>
      exact congrArg Host.Outcome.next (dispatch_status h ha hop rfl length read (carryCommitCancel_none hc))

end Sys2Proof.Proofs
end

section
/-! SUPPORT and the settling of O32 to O35. What one event does at the Route Table: every route by its count, the routes
whose action is issued, and the effect of one action that is issued while no schedule evaluates a count. -/

namespace Sys2Proof.Machine

/-! ### Routes on an event -/

section
variable {routes : Vector Route 16} {e : EventSource} {i j : RouteId}

theorem countRoutes_get (routes : Vector Route 16) (e : EventSource) (r : RouteId) :
    (countRoutes routes e)[r] = routes[r].count e (shadowedOn routes e r) := by
  simp [countRoutes]

theorem Route.hit_iff (x : Route) (e : EventSource) :
    x.hit e = true ↔ x.enable = true ∧ ∃ src, x.source = some src ∧ src.matchesEvent e = true := by
  cases hs : x.source <;> simp [Route.hit, hs]

/-- Counting an event changes no route's enable, source or action (R107). -/
theorem Route.count_hit (x : Route) (e e' : EventSource) (b : Bool) : (x.count e b).hit e' = x.hit e' := by
  unfold Route.count
  split
  · split
    · split <;> rfl
    · rfl
  · rfl

theorem Route.count_action (x : Route) (e : EventSource) (b : Bool) : (x.count e b).action = x.action := by
  unfold Route.count
  split
  · split
    · split <;> rfl
    · rfl
  · rfl

theorem Route.count_divider (x : Route) (e : EventSource) (b : Bool) : (x.count e b).divider = x.divider := by
  unfold Route.count
  split
  · split
    · split <;> rfl
    · rfl
  · rfl

theorem Route.count_miss {x : Route} (b : Bool) (h : x.hit e = false) : x.count e b = x := by
  unfold Route.count
  rw [if_neg (by rw [h]; decide)]

theorem Route.count_waits {x : Route} (b : Bool) (h : x.hit e = true) (hc : x.counter + 1 ≠ x.divider) :
    x.count e b = { x with matched := min (x.matched + 1) 65535, counter := x.counter + 1 } := by
  unfold Route.count
  rw [if_pos h, if_neg hc]
  rfl

theorem Route.count_acts {x : Route} (h : x.acts e = true) :
    x.count e false = x.actedOnce ∧ x.count e true = x.shadowedOnce := by
  obtain ⟨hit, reached⟩ := Bool.and_eq_true_iff.mp h
  have count (b : Bool) : x.count e b = if b then x.shadowedOnce else x.actedOnce := by
    unfold Route.count
    rw [if_pos hit, if_pos (of_decide_eq_true reached)]
    rfl
  exact ⟨count false, count true⟩

theorem mem_allRoutes (r : RouteId) : r ∈ Config.allRoutes := by
  revert r
  decide

/-- A route is shadowed by an acting one with a lower number that reaches the same schedule (R110). -/
theorem shadowedOn_iff : shadowedOn routes e i = true ↔
    ∃ j, j < i ∧ routes[j].acts e = true ∧ ∃ n, routes[i].target = some n ∧ routes[j].target = some n := by
  unfold shadowedOn
  cases ht : routes[i].target with
  | none => simp
  | some n =>
    simp only [List.any_eq_true, Bool.and_eq_true, decide_eq_true_eq, Option.some.injEq]
    constructor
    · rintro ⟨q, -, ⟨lt, acts⟩, same⟩
      exact ⟨q, lt, acts, n, rfl, same⟩
    · rintro ⟨q, lt, acts, m, rfl, same⟩
      exact ⟨q, mem_allRoutes q, ⟨lt, acts⟩, same⟩

/-- A route that acts with no lower-numbered acting route is not shadowed. -/
theorem shadowedOn_first (h : ∀ r, r < i → routes[r].acts e = false) : shadowedOn routes e i = false := by
  refine Bool.eq_false_iff.mpr fun hs => ?_
  obtain ⟨r, lt, acts, -⟩ := shadowedOn_iff.mp hs
  rw [h r lt] at acts
  cases acts

theorem Route.acts_of_miss {x : Route} (h : x.hit e = false) : x.acts e = false := by simp [Route.acts, h]

theorem filter_allRoutes_one {p : RouteId → Bool} (i : RouteId) (hp : ∀ r, p r = decide (r = i)) :
    Config.allRoutes.filter p = [i] := by
  have all : ∀ i : RouteId, Config.allRoutes.filter (fun r => decide (r = i)) = [i] := by decide
  rw [funext hp]
  exact all i

theorem filter_allRoutes_two {p : RouteId → Bool} (i j : RouteId) (hij : i < j)
    (hp : ∀ r, p r = decide (r = i ∨ r = j)) : Config.allRoutes.filter p = [i, j] := by
  have all : ∀ i j : RouteId, i < j → Config.allRoutes.filter (fun r => decide (r = i ∨ r = j)) = [i, j] := by decide
  rw [funext hp]
  exact all i j hij

/-- The only route on an event acts on it, and its action is issued (R106, R107). -/
theorem countRoutes_one (ha : routes[i].acts e = true) (ho : ∀ r : RouteId, r ≠ i → routes[r].hit e = false) :
    countRoutes routes e = routes.set i routes[i].actedOnce ∧ issuing routes e = [i] := by
  have clear : shadowedOn routes e i = false :=
    shadowedOn_first fun r hr => Route.acts_of_miss (ho r (ne_of_lt hr))
  constructor
  · refine Vector.ext fun k hk => ?_
    have counted := countRoutes_get routes e ⟨k, hk⟩
    by_cases h : (⟨k, hk⟩ : RouteId) = i
    · subst h
      rw [clear, (Route.count_acts ha).1] at counted
      simpa using counted
    · rw [Route.count_miss _ (ho _ h)] at counted
      rw [Vector.getElem_set_ne _ _ (fun he => h (Fin.ext he.symm))]
      exact counted
  · refine filter_allRoutes_one i fun r => ?_
    by_cases h : r = i
    · rw [h, ha, clear, decide_eq_true rfl]
      rfl
    · rw [Route.acts_of_miss (ho r h), decide_eq_false h]
      rfl

/-- Two routes on an event act on it; the higher-numbered one is shadowed or issued after the other (R106, R110). -/
theorem countRoutes_two (hij : i < j) (hi : routes[i].acts e = true) (hj : routes[j].acts e = true)
    (ho : ∀ r : RouteId, r ≠ i → r ≠ j → routes[r].hit e = false) :
    countRoutes routes e = (routes.set i routes[i].actedOnce).set j
      (if shadowedOn routes e j then routes[j].shadowedOnce else routes[j].actedOnce) ∧
    issuing routes e = if shadowedOn routes e j then [i] else [i, j] := by
  have clear : shadowedOn routes e i = false := shadowedOn_first fun r hr =>
    Route.acts_of_miss (ho r (ne_of_lt hr) (ne_of_lt (lt_trans hr hij)))
  constructor
  · refine Vector.ext fun k hk => ?_
    have counted := countRoutes_get routes e ⟨k, hk⟩
    by_cases h : (⟨k, hk⟩ : RouteId) = j
    · subst h
      refine counted.trans ?_
      rw [Vector.getElem_set_self]
      cases shadowedOn routes e _ with
      | true => exact (Route.count_acts hj).2
      | false => exact (Route.count_acts hj).1
    · rw [Vector.getElem_set_ne _ _ (fun he => h (Fin.ext he.symm))]
      by_cases h' : (⟨k, hk⟩ : RouteId) = i
      · subst h'
        rw [Vector.getElem_set_self]
        refine counted.trans ?_
        rw [clear]
        exact (Route.count_acts hi).1
      · rw [Vector.getElem_set_ne _ _ (fun he => h' (Fin.ext he.symm))]
        rw [Route.count_miss _ (ho _ h' h)] at counted
        exact counted
  · have other (r : RouteId) (h : r ≠ i) (h' : r ≠ j) : (routes[r].acts e && !shadowedOn routes e r) = false := by
      rw [Route.acts_of_miss (ho r h h')]
      rfl
    cases hs : shadowedOn routes e j with
    | true =>
      refine filter_allRoutes_one i fun r => ?_
      by_cases h : r = i
      · rw [h, hi, clear, decide_eq_true rfl]
        rfl
      · rw [decide_eq_false h]
        by_cases h' : r = j
        · rw [h', hs, Bool.not_true, Bool.and_false]
        · exact other r h h'
    | false =>
      refine filter_allRoutes_two i j hij fun r => ?_
      by_cases h : r = i
      · rw [h, hi, clear, decide_eq_true (.inl rfl)]
        rfl
      · by_cases h' : r = j
        · rw [h', hs, hj, decide_eq_true (.inr rfl)]
          rfl
        · rw [decide_eq_false (not_or.mpr ⟨h, h'⟩)]
          exact other r h h'

/-- Counting an event leaves every route on the events it was on. -/
theorem NoRouteOn.counted {s : State} {e' : EventSource} (h : NoRouteOn s e') (e : EventSource) :
    NoRouteOn { s with routes := countRoutes s.routes e } e' := fun r => by
  refine (congrArg (fun x : Route => x.hit e') (countRoutes_get s.routes e r)).trans ?_
  rw [Route.count_hit]
  exact h r

end

/-! ### What is still to be taken -/

section
variable {busy : Option AxisId} {w : Work}

theorem routeSteps_add (k m : Nat) (w : Work) : routeSteps busy (k + m) w = routeSteps busy m (routeSteps busy k w) := by
  induction k generalizing w with
  | zero => rw [Nat.zero_add]; rfl
  | succ k ih => rw [Nat.add_right_comm]; exact ih _

/-- Steps beyond those that are enough change nothing more. -/
theorem routeSteps_enough {k : Nat} (h : w.bound ≤ k) : routeSteps busy k w = settle busy w := by
  obtain ⟨m, rfl⟩ := Nat.exists_eq_add_of_le h
  obtain ⟨hi, he⟩ := settle_done busy w
  rw [routeSteps_add]
  exact routeSteps_idle m hi he

/-- Steps taken early lead to the same end. -/
theorem settle_routeStep (busy : Option AxisId) (w : Work) : settle busy (routeStep busy w) = settle busy w := by
  by_cases hw : w.issues = [] ∧ w.events = []
  · have idle : routeStep busy w = w := routeSteps_idle 1 hw.1 hw.2
    rw [idle]
  · have less := routeStep_bound busy w (by tauto)
    have again : routeSteps busy (w.bound - 1) (routeStep busy w) = routeSteps busy (w.bound - 1 + 1) w := rfl
    rw [← routeSteps_enough (Nat.le_sub_one_of_lt less), again, Nat.sub_add_cancel (by omega)]
    rfl

theorem settle_routeSteps (busy : Option AxisId) (k : Nat) (w : Work) : settle busy (routeSteps busy k w) = settle busy w := by
  induction k generalizing w with
  | zero => rfl
  | succ k ih => exact (ih _).trans (settle_routeStep busy w)

/-- The Route Table takes the next event. -/
theorem settle_event {e : SourceEvent} {rest : List SourceEvent} (hi : w.issues = []) (he : w.events = e :: rest) :
    settle busy w = settle busy (takeEvent e { w with events := rest }) := by
  rw [← settle_routeStep]
  simp only [routeStep, hi, he]

/-- The Route Table issues the next action. -/
theorem settle_issue {i : Issue} {rest : List Issue} (hi : w.issues = i :: rest) :
    settle busy w = settle busy (issueRoute busy i { w with issues := rest }) := by
  rw [← settle_routeStep]
  simp only [routeStep, hi]

/-- Events that no route names are taken, and nothing else happens. -/
theorem settle_unrouted (hi : w.issues = []) (h : ∀ e ∈ w.events, NoRouteOn w.s e.source) :
    settle busy w = { w with events := [] } := by
  obtain ⟨s, events, issues, onMark, after⟩ := w
  simp only at hi h
  subst hi
  induction events with
  | nil => exact settle_idle rfl rfl
  | cons e es ih =>
    obtain ⟨he, hes⟩ := List.forall_mem_cons.mp h
    rw [settle_event rfl rfl, takeEvent_of_no_route (by exact he)]
    exact ih hes

end

/-! ### One action issued -/

/-- The effect of a route's action that is issued on an event while no schedule evaluates a count (R108, R109, R111). -/
def actOn (e : SourceEvent) (i : RouteId) (n : Nat) : RouteAction → State → State
  | .capture set, s => s.produce ⟨.capture (some i) e.source.captureSource n, e.time, posWords s.axes set⟩
  | .start m, s => startSchedule m s
  | .stop m, s => stopSchedule m s
  | .commit m, s => sendEvents (routeCommit m s).2 (routeCommit m s).1
  | .output l act, s => issueAction l act s

/-- An event on which the action of one route alone is issued has the effect of that action (R106). -/
theorem sendEvent_issues {s : State} {source : EventSource} {i : RouteId} {a : RouteAction} (time : Ticks)
    (hi : issuing s.routes source = [i]) (ha : (s.route i).action = some a) :
    sendEvent source time s =
      actOn ⟨source, time⟩ i (s.route i).divider a { s with routes := countRoutes s.routes source } := by
  have counted : ({ s with routes := countRoutes s.routes source }.route i) =
      (s.route i).count source (shadowedOn s.routes source i) := countRoutes_get _ _ _
  have action : ({ s with routes := countRoutes s.routes source }.route i).action = some a := by
    rw [counted, Route.count_action, ha]
  have divider : ({ s with routes := countRoutes s.routes source }.route i).divider = (s.route i).divider := by
    rw [counted, Route.count_divider]
  unfold sendEvent sendEvents
  rw [settle_event rfl rfl, settle_issue (i := ⟨⟨source, time⟩, s.axes, i⟩) (rest := [])
    (by simp only [takeEvent, Work.of, hi, List.map_cons, List.map_nil])]
  simp only [takeEvent, Work.of, issueRoute, action, divider]
  cases a with
  | capture set => simp only [actOn]; rw [settle_idle rfl rfl]
  | start n => simp only [actOn, reachSchedule, reduceCtorEq, if_false, takeSchedAct, List.append_nil]; rw [settle_idle rfl rfl]
  | stop n => simp only [actOn, reachSchedule, reduceCtorEq, if_false, takeSchedAct, List.append_nil]; rw [settle_idle rfl rfl]
  | commit n => simp only [actOn, reachSchedule, reduceCtorEq, if_false, takeSchedAct, List.nil_append]; rfl
  | output l act => simp only [actOn]; rw [settle_idle rfl rfl]

section
variable {n : AxisId} {s : State}

/-- A START runs a schedule that is not RUNNING, has entries and a REFERENCED axis, freshly armed (R57). -/
theorem startSchedule_eq (n : AxisId) (s : State) : startSchedule n s =
    if (s.sched n).state ≠ .running ∧ (s.sched n).active ≠ [] ∧ (s.axis n).ref = .referenced then
      { s with scheds := s.scheds.set n { s.sched n with
        state := .running, active := listArmed (s.axis n) (s.sched n).h (s.sched n).active } }
    else s := rfl

theorem routeCommit_waits (h : ∀ run, (s.sched n).commit ≠ some (.atTrigger run)) : routeCommit n s = (s, []) := by
  unfold routeCommit
  cases hc : (s.sched n).commit with
  | none => rfl
  | some commit =>
    cases commit with
    | atTrigger run => exact absurd hc (h run)
    | atPosition p run => rfl

theorem routeCommit_takes {run : Bool} (h : (s.sched n).commit = some (.atTrigger run)) :
    routeCommit n s = takeCommit n run s := by simp only [routeCommit, h]

/-- A commit whose completion no route names (R65, R67, R61). -/
theorem actOn_commit {e : SourceEvent} {i : RouteId} {k : Nat} {run : Bool}
    (hc : (s.sched n).commit = some (.atTrigger run))
    (hr : (s.sched n).state = .running → listArmed (s.axis n) (s.sched n).h (s.sched n).staging = [] →
      NoRouteOn s (.schedDone n)) :
    actOn e i k (.commit n) s = (takeCommit n run s).1 := by
  rw [actOn, routeCommit_takes hc]
  have frame := takeCommit_frame n run s
  obtain ⟨c, f, q, -, same⟩ := frame
  rw [takeCommit_eq, sendEvents_if]
  split
  · rename_i done
    exact sendEvent_of_no_route _ (hr done.1 done.2)
  · rfl

end

/-! ### An accepted edge -/

section
variable {k : TriggerId} {s : State}

/-- With no axis homing on the input, an edge is one for the Route Table (R102). -/
theorem deliverEdge_routes {edge : Edge} (time : Ticks) (before after : List AxisId) (hn : NoHomingOn s k) :
    deliverEdge k edge time before after s = sendEvent (.trig k edge) time s := by
  rw [deliverEdge, foldl_homingEdge_others before fun n _ => hn n]
  refine foldl_homingEdge_others _ fun n _ => ?_
  rw [sendEvent_axis]
  exact hn n

theorem Trigger.edge_eq (t : Trigger) : Level.edge t.level.flip = t.edge := by
  unfold Trigger.edge
  cases t.level <;> rfl

/-- An accepted edge on an input on which no axis homes (R98 to R101). -/
theorem exec_triggerEdge_accepted {c : LineChange} (hs : s.phase = .running)
    (hc : heldEdge ((s.trigger k).filter * 10) (s.triggerWire k) = some c) (hsel : (s.trigger k).Selected)
    (hh : (s.trigger k).holdoffEnd = none) (hn : NoHomingOn s k) :
    let u := (s.runTo c.time).setTriggerWire k c.left
    exec (.triggerEdge k [] []) s = .next (sendEvent (.trig k (s.trigger k).edge)
      (u.timebase.count - BitVec.ofNat 48 ((s.trigger k).filter * 10))
      { u with triggers := s.triggers.set k ((s.trigger k).acceptedAt u.now) }) := by
  intro u
  refine congrArg Host.Outcome.next ((whenRunning_running _ hs).trans ?_)
  rw [triggerEdge_eq [] [] hc, takeEdge_accepts (s := u) [] [] (selects_of_selected hsel) hh, deliverEdge_routes _ [] [] (by exact hn)]
  rw [show Level.edge (u.trigger k).level.flip = (s.trigger k).edge from Trigger.edge_eq _]
  rfl

/-- The edges that a TRIG source names or admits (Table 5-3). -/
theorem RouteEdge.admits_of {src : RouteEdge} {t : Trigger}
    (h : src = .any ∨ src = (match t.level with | .low => .rise | .high => .fall)) : src.admits t.edge = true := by
  unfold Trigger.edge
  rcases h with rfl | rfl
  · rfl
  · cases t.level <;> rfl

/-- The routes that an accepted edge is on (Table 5-3). -/
theorem Route.hit_trig (x : Route) (k : TriggerId) (t : Trigger) :
    x.hit (.trig k t.edge) = true ↔ x.enable = true ∧ (x.source = some (.trig k .any) ∨
      x.source = some (.trig k (match t.level with | .low => .rise | .high => .fall))) := by
  have source (src : RouteSource) : src.matchesEvent (.trig k t.edge) = true ↔
      src = .trig k .any ∨ src = .trig k (match t.level with | .low => .rise | .high => .fall) := by
    unfold Trigger.edge
    cases src with
    | trig k' e => cases e <;> cases t.level <;> simp [RouteSource.matchesEvent, RouteEdge.admits]
    | _ => simp [RouteSource.matchesEvent]
  rw [Route.hit_iff]
  refine and_congr_right fun _ => ?_
  cases x.source with
  | none => simp
  | some src => simpa using source src

theorem RouteSource.matches_trig {src : RouteEdge} {edge : Edge} (h : src.admits edge = true) :
    (RouteSource.trig k src).matchesEvent (.trig k edge) = true := by
  simp [RouteSource.matchesEvent, h]

/-- A ready route acts on an event that its source matches (R107). -/
theorem Route.Ready.acts {x : Route} {src : RouteSource} {a : RouteAction} {e : EventSource} (h : x.Ready src a)
    (hm : src.matchesEvent e = true) : x.acts e = true := by
  have hit : x.hit e = true := (Route.hit_iff x e).mpr ⟨h.enable, src, h.source, hm⟩
  rw [Route.acts, hit, decide_eq_true h.counter]
  rfl

/-- A route that has acted is on the events it was on. -/
theorem NoRouteOn.acted {e : EventSource} (h : NoRouteOn s e) (i : RouteId) :
    NoRouteOn { s with routes := s.routes.set i (s.route i).actedOnce } e := by
  intro r
  by_cases hr : r = i
  · subst hr
    have here : ({ s with routes := s.routes.set r (s.route r).actedOnce } : State).route r = (s.route r).actedOnce :=
      Vector.getElem_set_self _
    rw [here]
    exact h r
  · have other : ({ s with routes := s.routes.set i (s.route i).actedOnce } : State).route r = s.route r :=
      Vector.getElem_set_ne i.isLt r.isLt (fun he => hr (Fin.ext he.symm))
    rw [other]
    exact h r

/-- The only route on an event, and ready: its action is issued (R106 to R108). -/
theorem sendEvent_one {source : EventSource} {i : RouteId} {src : RouteSource} {a : RouteAction} (time : Ticks)
    (hr : (s.route i).Ready src a) (hm : src.matchesEvent source = true)
    (ho : ∀ j, j ≠ i → (s.route j).hit source = false) :
    sendEvent source time s = actOn ⟨source, time⟩ i (s.route i).divider a
      { s with routes := s.routes.set i (s.route i).actedOnce } := by
  obtain ⟨counted, issued⟩ := countRoutes_one (routes := s.routes) (hr.acts hm) ho
  rw [sendEvent_issues time issued hr.action, counted]
  rfl

/-- Of two ready routes that reach one schedule the lower-numbered acts, and the other is shadowed (R110). -/
theorem sendEvent_shadowing {source : EventSource} {i j : RouteId} {n : AxisId} {src src' : RouteSource}
    {a b : RouteAction} (time : Ticks) (hij : i < j) (hi : (s.route i).Ready src a) (hj : (s.route j).Ready src' b)
    (hm : src.matchesEvent source = true) (hm' : src'.matchesEvent source = true) (ha : a.target = some n)
    (hb : b.target = some n) (ho : ∀ h, h ≠ i → h ≠ j → (s.route h).hit source = false) :
    countRoutes s.routes source = (s.routes.set i (s.route i).actedOnce).set j (s.route j).shadowedOnce ∧
    sendEvent source time s = actOn ⟨source, time⟩ i (s.route i).divider a
      { s with routes := (s.routes.set i (s.route i).actedOnce).set j (s.route j).shadowedOnce } := by
  obtain ⟨counted, issued⟩ := countRoutes_two (routes := s.routes) hij (hi.acts hm) (hj.acts hm') ho
  have shadowed : shadowedOn s.routes source j = true := by
    have reach_i : (s.route i).target = some n := by rw [Route.target, hi.action]; exact ha
    have reach_j : (s.route j).target = some n := by rw [Route.target, hj.action]; exact hb
    exact shadowedOn_iff.mpr ⟨i, hij, hi.acts hm, n, reach_j, reach_i⟩
  rw [shadowed] at counted issued
  refine ⟨counted, ?_⟩
  rw [sendEvent_issues time issued hi.action, counted]
  rfl

end

/-! ### Every route on an edge -/

/-- The waiting events are SCHED_DONE events, and the routes stand at a given vector. -/
structure Work.OnlyDone (routes : Vector Route 16) (w : Work) : Prop where
  routes : w.s.routes = routes
  events : ∀ e ∈ w.events, ∃ n, e.source = .schedDone n

theorem takeSchedAct_routes (n : AxisId) (act : SchedAct) (s : State) : (takeSchedAct n act s).1.routes = s.routes := by
  obtain ⟨_, _, _, -, he⟩ := takeSchedAct_frame n act s
  rw [he]

/-- A schedule sends no source event but SCHED_DONE (R61). -/
theorem takeSchedAct_events (n : AxisId) (act : SchedAct) (s : State) :
    ∀ e ∈ (takeSchedAct n act s).2, ∃ m, e.source = .schedDone m := by
  have completes (t : State) : ∀ e ∈ (completeIfEmpty n t).2, ∃ m, e.source = .schedDone m := by
    unfold completeIfEmpty
    split
    · intro e he
      exact ⟨n, by rw [List.mem_singleton.mp he]⟩
    · exact fun e he => absurd he List.not_mem_nil
  cases act with
  | start => exact fun e he => absurd he List.not_mem_nil
  | stop => exact fun e he => absurd he List.not_mem_nil
  | commit =>
    simp only [takeSchedAct, routeCommit]
    split
    · exact completes _
    · exact fun e he => absurd he List.not_mem_nil
    · exact fun e he => absurd he List.not_mem_nil

section
variable {routes : Vector Route 16}

theorem Work.OnlyDone.issue {w : Work} (h : w.OnlyDone routes) (i : Issue) : (issueRoute none i w).OnlyDone routes := by
  have reach (n : AxisId) (act : SchedAct) : (reachSchedule none i.event n act w).OnlyDone routes := by
    refine ⟨(takeSchedAct_routes n act w.s).trans h.routes, fun e he => ?_⟩
    rcases List.mem_append.mp he with he | he
    · exact h.events e he
    · exact takeSchedAct_events n act w.s e he
  unfold issueRoute
  split
  · exact ⟨h.routes, h.events⟩
  · exact reach _ _
  · exact reach _ _
  · exact reach _ _
  · rename_i l act _
    obtain ⟨_, _, -, he⟩ := issueAction_frame l act w.s
    exact ⟨by rw [he]; exact h.routes, h.events⟩
  · exact h

/-- With no route on a completion, the routes stay as the event before has left them. -/
theorem Work.OnlyDone.routeStep (hr : ∀ n (r : RouteId), routes[r].hit (.schedDone n) = false) {w : Work}
    (h : w.OnlyDone routes) : (routeStep none w).OnlyDone routes := by
  unfold Machine.routeStep
  split
  · rename_i i rest _
    exact Work.OnlyDone.issue (w := { w with issues := rest }) ⟨h.routes, h.events⟩ i
  · rename_i e rest _ events
    obtain ⟨n, source⟩ := h.events e (by rw [events]; exact List.mem_cons_self)
    refine ⟨?_, fun e' he => h.events e' (by rw [events]; exact List.mem_cons_of_mem e he)⟩
    simp only [takeEvent, source, h.routes]
    exact countRoutes_of_no_hit (hr n)
  · exact h

theorem Work.OnlyDone.settle (hr : ∀ n (r : RouteId), routes[r].hit (.schedDone n) = false) {w : Work}
    (h : w.OnlyDone routes) : (settle none w).OnlyDone routes := by
  unfold Machine.settle
  generalize w.bound = k
  induction k generalizing w with
  | zero => exact h
  | succ k ih => exact ih (h.routeStep hr)

end

/-- With no route on a completion, an event counts every route once (R106, R107). -/
theorem sendEvent_routes {s : State} (source : EventSource) (time : Ticks) (hr : ∀ n, NoRouteOn s (.schedDone n)) :
    (sendEvent source time s).routes = countRoutes s.routes source := by
  unfold sendEvent sendEvents
  rw [settle_event rfl rfl]
  have taken : (takeEvent ⟨source, time⟩ (Work.of s [])).OnlyDone (countRoutes s.routes source) :=
    ⟨rfl, fun e he => absurd he List.not_mem_nil⟩
  exact (taken.settle fun n => (hr n).counted source).routes

theorem foldl_homingEdge_routes (k : TriggerId) (ns : List AxisId) (s : State) :
    (ns.foldl (homingEdge k) s).routes = s.routes := by
  induction ns generalizing s with
  | nil => rfl
  | cons n ns ih =>
    obtain ⟨_, _, _, _, _, -, he⟩ := homingEdge_frame k s n
    rw [List.foldl_cons, ih, he]

theorem deliverEdge_routeTable {k : TriggerId} {edge : Edge} {s : State} (time : Ticks) (before after : List AxisId)
    (hr : ∀ n, NoRouteOn s (.schedDone n)) :
    (deliverEdge k edge time before after s).routes = countRoutes s.routes (.trig k edge) := by
  have same := foldl_homingEdge_routes k before s
  have none : ∀ n, NoRouteOn (before.foldl (homingEdge k) s) (.schedDone n) := fun n r => by
    rw [State.route, same]
    exact hr n r
  rw [deliverEdge, foldl_homingEdge_routes, sendEvent_routes _ _ none, same]

end Sys2Proof.Machine

namespace Sys2Proof.Proofs

open Sys2Proof.Machine

/-- Settles O35: an event counts its one ready route and issues the route's action; the schedule's operations give what
the action does. -/
theorem sourceEventsReachTheirRoutes : Obligations.SourceEventsReachTheirRoutes := by
  intro s e time
  refine ⟨sendEvent_of_no_route time, ?_⟩
  intro i src a hr hm ho v source
  have admitted : src.matchesEvent e = true := by
    cases src with
    | trig k edge =>
      cases e with
      | trig j edge' => cases edge <;> cases edge' <;> simp_all [RouteSource.matchesEvent, RouteEdge.admits]
      | _ => cases edge <;> exact hm.elim
    | _ => cases e <;> simp_all [RouteSource.matchesEvent]
  have named : e.captureSource = source := by cases e <;> rfl
  have sent := sendEvent_one time hr admitted ho
  refine ⟨?_, ?_, ?_⟩
  · rintro set rfl
    rw [sent, ← named]
    rfl
  · rintro l act rfl
    exact sent
  · intro n x runs
    refine ⟨?_, ?_, ?_, ?_⟩
    · rintro rfl
      exact sent.trans (startSchedule_eq n v)
    · rintro rfl
      exact sent
    · rintro rfl hc
      rw [sent, actOn, routeCommit_waits (by exact hc), sendEvents_nil]
    · rintro run rfl hc new committed starts done hd
      rw [sent, actOn_commit (by exact hc) (fun h h' => ?_), takeCommit_eq]
      · rfl
      · exact (hd ⟨h, h'⟩).acted i

/-- Settles O33: an accepted edge on an input on which no axis homes is an event with one ready route. -/
theorem captureRouteRecordsThePositions : Obligations.CaptureRouteRecordsThePositions := by
  intro s k i c src action hs hc hsel hh hn hsrc hr ho u v
  have edge := exec_triggerEdge_accepted hs hc hsel hh hn
  have sent := sendEvent_one (s := { u with triggers := s.triggers.set k ((s.trigger k).acceptedAt u.now) })
    (u.timebase.count - BitVec.ofNat 48 ((s.trigger k).filter * 10)) hr
    (RouteSource.matches_trig (RouteEdge.admits_of hsrc)) ho
  have acts := edge.trans (congrArg Host.Outcome.next sent)
  constructor
  · rintro set rfl
    exact acts
  · rintro l act rfl
    exact acts

/-- Settles O34: the higher-numbered of the two routes is shadowed, and the action of the lower-numbered is issued. -/
theorem lowestNumberedRouteWinsTheSchedule : Obligations.LowestNumberedRouteWinsTheSchedule := by
  intro s k i j n c a b src src' hs hc hsel hh hn hsrc hij hi hj hb hd ho u v x runs
  have edge := exec_triggerEdge_accepted hs hc hsel hh hn
  have reach_b : b.target = some n := by
    rcases List.mem_cons.mp hb with rfl | hb
    · rfl
    rcases List.mem_cons.mp hb with rfl | hb
    · rfl
    rw [List.mem_singleton.mp hb]
    rfl
  have matches_i := RouteSource.matches_trig (k := k) (RouteEdge.admits_of (hsrc src List.mem_cons_self))
  have matches_j := RouteSource.matches_trig (k := k)
    (RouteEdge.admits_of (hsrc src' (List.mem_cons_of_mem _ (List.mem_singleton_self _))))
  have shadows (ha : a.target = some n) := sendEvent_shadowing
    (s := { u with triggers := s.triggers.set k ((s.trigger k).acceptedAt u.now) })
    (u.timebase.count - BitVec.ofNat 48 ((s.trigger k).filter * 10)) hij hi hj matches_i matches_j ha reach_b ho
  have acts (ha : a.target = some n) := edge.trans (congrArg Host.Outcome.next (shadows ha).2)
  have unheard (ha : a.target = some n) : NoRouteOn v (.schedDone n) := by
    have counted := NoRouteOn.counted (s := { u with triggers := s.triggers.set k ((s.trigger k).acceptedAt u.now) })
      hd (.trig k (s.trigger k).edge)
    rw [(shadows ha).1] at counted
    exact counted
  refine ⟨?_, ?_, ?_, ?_⟩
  · rintro rfl
    exact (acts rfl).trans (congrArg Host.Outcome.next (startSchedule_eq n v))
  · rintro rfl
    exact acts rfl
  · rintro rfl hc
    refine (acts rfl).trans (congrArg Host.Outcome.next ?_)
    rw [actOn, routeCommit_waits (by exact hc), sendEvents_nil]
    rfl
  · rintro run rfl hc new committed starts done
    refine (acts rfl).trans (congrArg Host.Outcome.next ?_)
    refine (actOn_commit (s := v) hc fun _ _ => unheard rfl).trans ?_
    rw [takeCommit_eq]
    rfl

/-- Settles O32: an accepted edge counts every route once, and nothing that follows from it counts another. -/
theorem acceptedEdgeCountsItsRoutes : Obligations.AcceptedEdgeCountsItsRoutes := by
  intro s k before after c hs hc hsel hh hd edge
  refine ⟨_, congrArg Host.Outcome.next (whenRunning_running _ hs), fun i => ?_⟩
  intro x hit acts shadowed
  have routes : (triggerEdge k before after s).routes = countRoutes s.routes (.trig k (s.trigger k).edge) := by
    rw [triggerEdge_eq before after hc,
      takeEdge_accepts (s := (s.runTo c.time).setTriggerWire k c.left) before after (selects_of_selected hsel) hh,
      deliverEdge_routeTable _ before after (by exact hd)]
    exact congrArg (fun e => countRoutes s.routes (.trig k e)) (Trigger.edge_eq _)
  have counted : (triggerEdge k before after s).route i =
      x.count (.trig k (s.trigger k).edge) (shadowedOn s.routes (.trig k (s.trigger k).edge) i) := by
    rw [State.route, routes]
    exact countRoutes_get s.routes _ i
  have hits (y : Route) : y.hit (.trig k (s.trigger k).edge) = true ↔
      y.enable = true ∧ (y.source = some (.trig k .any) ∨ y.source = some (.trig k edge)) :=
    Route.hit_trig y k (s.trigger k)
  have acting (y : Route) : y.acts (.trig k (s.trigger k).edge) = true ↔
      (y.enable = true ∧ (y.source = some (.trig k .any) ∨ y.source = some (.trig k edge))) ∧
        y.counter + 1 = y.divider := by
    rw [Route.acts, Bool.and_eq_true, hits, decide_eq_true_eq]
  have shadows : shadowedOn s.routes (.trig k (s.trigger k).edge) i = true ↔ shadowed := by
    refine shadowedOn_iff.trans (exists_congr fun j => and_congr_right fun _ => and_congr_left fun _ => ?_)
    exact (acting (s.route j)).trans and_assoc
  rw [counted]
  refine ⟨fun h => ?_, fun h h' => ?_, fun h h' => ?_, fun h h' => ?_⟩
  · exact Route.count_miss _ (Bool.eq_false_iff.mpr fun ht => h ((hits x).mp ht))
  · exact Route.count_waits _ ((hits x).mpr h) fun hr => h' ⟨h, hr⟩
  · rw [Bool.eq_false_iff.mpr fun ht => h' (shadows.mp ht)]
    exact (Route.count_acts ((acting x).mpr h)).1
  · rw [shadows.mpr h']
    exact (Route.count_acts ((acting x).mpr h)).2

end Sys2Proof.Proofs
end

section
/-! SUPPORT and the settling of O19 to O23. A count of a RUNNING schedule: its firings one after another, the events on
their marks, the re-arming and the end of the count. The firings touch lines and queue on the one side, the schedule
and the free count on the other, and the two sides do not see each other. -/

namespace Sys2Proof.Machine

/-! ### The two sides of a firing -/

/-- The state with the free count, the schedules and the routes replaced. -/
def State.overlay (f : Nat) (v : Vector Schedule 4) (r : Vector Route 16) (s : State) : State :=
  { s with free := f, scheds := v, routes := r }

section
variable {f g : Nat} {v w : Vector Schedule 4} {r q : Vector Route 16} {n : AxisId} {d : Dir} {e : Entry} {s : State}

theorem State.overlay_overlay : (s.overlay f v r).overlay g w q = s.overlay g w q := rfl

theorem State.overlay_self (s : State) : s.overlay s.free s.scheds s.routes = s := rfl

theorem State.overlay_line (l : LineId) : (s.overlay f v r).line l = s.line l := rfl

theorem dropAction_overlay (l : LineId) (reason : LineReason) :
    dropAction l reason (s.overlay f v r) = (dropAction l reason s).overlay f v r := by
  rw [dropAction_eq, dropAction_eq]
  rfl

theorem preempt_overlay (l : LineId) : preempt l (s.overlay f v r) = (preempt l s).overlay f v r := by
  rw [preempt_eq, preempt_eq]
  rfl

theorem takeAction_overlay (l : LineId) (act : OutAction) :
    (takeAction l act (s.overlay f v r)).1 = (takeAction l act s).1.overlay f v r := by
  unfold takeAction
  simp only [State.overlay_line, preempt_overlay, dropAction_overlay]
  cases (s.line l).running with
  | none => rfl
  | some run =>
    cases (s.line l).policy with
    | preempt => rfl
    | drop => rfl
    | queue => cases (s.line l).waiting <;> rfl

/-- An output action sees no schedule, no free count and no route. -/
theorem issueAction_overlay (l : LineId) (act : OutAction) :
    issueAction l act (s.overlay f v r) = (issueAction l act s).overlay f v r := by
  unfold issueAction
  rw [takeAction_overlay, dropAction_overlay]
  by_cases hs : s.safe
  · rw [if_pos hs, if_pos (by exact hs)]
  · rw [if_neg hs, if_neg (by exact hs)]

/-- The actions of a firing are those of the spec (R47 to R49). -/
theorem fireActions_eq (n : AxisId) (d : Dir) (e : Entry) (s : State) : fireActions n d e s = s.fired n d e := by
  unfold fireActions State.fired
  simp only [State.produceIf_eq]
  cases e.action with
  | none => rfl
  | some p =>
    obtain ⟨x, q, -, he⟩ := issueAction_frame p.1 p.2 s
    simp only [he]
    rfl

/-- `t` is `s` with lines and records of the lines changed. -/
def OutputsOnly (s t : State) : Prop :=
  ∃ lines q, q.enables = s.queue.enables ∧ t = { s with lines := lines, queue := q }

theorem OutputsOnly.refl (s : State) : OutputsOnly s s := ⟨_, _, rfl, rfl⟩

theorem OutputsOnly.trans {t u : State} (h : OutputsOnly s t) (h' : OutputsOnly t u) : OutputsOnly s u := by
  obtain ⟨_, _, kept, rfl⟩ := h
  obtain ⟨_, _, kept', rfl⟩ := h'
  exact ⟨_, _, kept'.trans kept, rfl⟩

theorem issueAction_outputsOnly (l : LineId) (act : OutAction) (s : State) : OutputsOnly s (issueAction l act s) := by
  obtain ⟨_, q, grown, he⟩ := issueAction_frame l act s
  have enables : q.enables = s.queue.enables :=
    grown.keeps (fun q => q.enables = s.queue.enables) (fun q i h => (RecordQueue.receive_enables q i).trans h) rfl
  exact ⟨_, q, enables, he⟩

theorem State.fired_outputsOnly (n : AxisId) (d : Dir) (s : State) (e : Entry) : OutputsOnly s (s.fired n d e) := by
  have recorded (t : State) (b : Bool) (i : Item) (h : OutputsOnly s t) :
      OutputsOnly s { t with queue := t.queue.offer b i } :=
    h.trans ⟨_, _, RecordQueue.offer_enables _ _ _, rfl⟩
  unfold State.fired
  cases e.action with
  | none => exact recorded _ _ _ (.refl s)
  | some p => exact recorded _ _ _ (issueAction_outputsOnly p.1 p.2 s)

theorem foldl_fired_outputsOnly (n : AxisId) (d : Dir) (es : List Entry) (s : State) :
    OutputsOnly s (es.foldl (State.fired n d) s) := by
  induction es generalizing s with
  | nil => exact .refl s
  | cons e es ih => exact (State.fired_outputsOnly n d s e).trans (ih _)

theorem State.fired_overlay (n : AxisId) (d : Dir) (e : Entry) :
    (s.overlay f v r).fired n d e = (s.fired n d e).overlay f v r := by
  unfold State.fired
  cases e.action with
  | none => rfl
  | some p =>
    simp only [issueAction_overlay]
    rfl

/-- One entry fires whole, all but its mark (R47). -/
def fireWhole (n : AxisId) (d : Dir) (s : State) (e : Entry) : State := finishFiring n e (fireActions n d e s)

/-- Its two sides: the lines and the queue, and the schedule and the free count. -/
theorem fireWhole_eq (n : AxisId) (d : Dir) (s : State) (e : Entry) :
    fireWhole n d s e = (s.fired n d e).overlay
      (s.free + ((s.sched n).active.length - (afterFiring e (s.sched n).active).length))
      (s.scheds.set n { s.sched n with
        active := afterFiring e (s.sched n).active, total := (s.sched n).total + 1#32 }) s.routes := by
  obtain ⟨lines, q, -, he⟩ := State.fired_outputsOnly n d s e
  rw [fireWhole, fireActions_eq, he]
  rfl

end

/-- A list after firings one after another. -/
def listFired (es l : List Entry) : List Entry := es.foldl (fun l e => afterFiring e l) l

theorem length_listFired_le (es l : List Entry) : (listFired es l).length ≤ l.length := by
  induction es generalizing l with
  | nil => exact le_refl _
  | cons e es ih => exact (ih _).trans (length_afterFiring_le e l)

/-- Firings one after another (R47, R51, R52), on their two sides. -/
theorem foldl_fireWhole (n : AxisId) (d : Dir) (es : List Entry) (s : State) :
    es.foldl (fireWhole n d) s = (es.foldl (State.fired n d) s).overlay
      (s.free + ((s.sched n).active.length - (listFired es (s.sched n).active).length))
      (s.scheds.set n { s.sched n with
        active := listFired es (s.sched n).active, total := (s.sched n).total + BitVec.ofNat 32 es.length }) s.routes := by
  have overlays (f : Nat) (v : Vector Schedule 4) (r : Vector Route 16) (es : List Entry) (t : State) :
      es.foldl (State.fired n d) (t.overlay f v r) = (es.foldl (State.fired n d) t).overlay f v r := by
    induction es generalizing t with
    | nil => rfl
    | cons e es ih => rw [List.foldl_cons, State.fired_overlay, ih, List.foldl_cons]
  induction es generalizing s with
  | nil =>
    have unchanged : s.scheds.set n { s.sched n with total := (s.sched n).total + BitVec.ofNat 32 0 } = s.scheds := by
      rw [show (s.sched n).total + BitVec.ofNat 32 0 = (s.sched n).total from BitVec.add_zero _]
      exact scheds_set_self n s
    simp only [List.foldl_nil, listFired, List.length_nil, Nat.sub_self, Nat.add_zero, unchanged]
    rfl
  | cons e es ih =>
    have le := length_afterFiring_le e (s.sched n).active
    have le' := length_listFired_le es (afterFiring e (s.sched n).active)
    have fired : listFired (e :: es) (s.sched n).active = listFired es (afterFiring e (s.sched n).active) := rfl
    have total : (s.sched n).total + 1#32 + BitVec.ofNat 32 es.length =
        (s.sched n).total + BitVec.ofNat 32 (e :: es).length := by
      rw [List.length_cons, BitVec.add_assoc, Nat.add_comm, BitVec.ofNat_add]
    have sched : (fireWhole n d s e).sched n = { s.sched n with
        active := afterFiring e (s.sched n).active, total := (s.sched n).total + 1#32 } := by
      rw [fireWhole_eq]
      simp [State.overlay, State.sched]
    rw [List.foldl_cons, ih, sched, fireWhole_eq, overlays, State.overlay_overlay, List.foldl_cons]
    simp only [total, fired]
    unfold State.overlay
    congr 1
    · simp
    · simp only []
      omega

/-! ### The list after the firings -/

section
variable {front back : List Entry} {e : Entry}

/-- A ONCE entry leaves its place (R52). -/
theorem afterFiring_once (hr : e.retire = .once) (hf : ∀ x ∈ front, x.tag ≠ e.tag) :
    afterFiring e (front ++ e :: back) = front ++ back := by
  simp only [afterFiring, hr]
  rw [List.eraseP_append_right _ (by simpa using hf), List.eraseP_cons_of_pos (by simp)]

/-- A REPEAT entry is counted and disarmed at its place (R51). -/
theorem afterFiring_repeated (hr : e.retire = .repeated) (hf : ∀ x ∈ front, x.tag ≠ e.tag)
    (hb : ∀ x ∈ back, x.tag ≠ e.tag) :
    afterFiring e (front ++ e :: back) =
      front ++ { e with fires := min (e.fires + 1) 65535, armed := false } :: back := by
  have kept (l : List Entry) (h : ∀ x ∈ l, x.tag ≠ e.tag) :
      l.map (fun x => if x.tag = e.tag then { x with fires := inc16 x.fires, armed := false } else x) = l := by
    refine (List.map_congr_left fun x hx => ?_).trans (List.map_id l)
    rw [if_neg (h x hx)]
    rfl
  have counted (l : List Entry) : afterFiring e l =
      l.map fun x => if x.tag = e.tag then { x with fires := inc16 x.fires, armed := false } else x := by
    simp only [afterFiring, hr]
  rw [counted, List.map_append, List.map_cons, kept front hf, kept back hb, if_pos rfl]
  rfl

end

/-- With distinct tags the firings of the firing entries give the list of the spec (R51, R52). -/
theorem listFired_filter (f : Entry → Bool) (front back : List Entry)
    (h : ((front ++ back).map Entry.tag).Nodup) :
    listFired (back.filter f) (front ++ back) = front ++ listAfter f back := by
  induction back generalizing front with
  | nil => rfl
  | cons e back ih =>
    have moved (x : Entry) (ht : x.tag = e.tag) : (((front ++ [x]) ++ back).map Entry.tag).Nodup := by
      simpa [ht] using h
    have apart : (∀ x ∈ front, x.tag ≠ e.tag) ∧ ∀ x ∈ back, x.tag ≠ e.tag := by
      simp only [List.map_append, List.map_cons, List.nodup_append, List.nodup_cons, List.mem_map, List.mem_cons] at h
      obtain ⟨-, ⟨back_apart, -⟩, front_apart⟩ := h
      exact ⟨fun x hx => front_apart _ ⟨x, hx, rfl⟩ _ (.inl rfl), fun x hx ht => back_apart ⟨x, hx, ht⟩⟩
    by_cases fires : f e = true
    · rw [List.filter_cons_of_pos fires]
      have first : listFired (e :: back.filter f) (front ++ e :: back) =
          listFired (back.filter f) (afterFiring e (front ++ e :: back)) := rfl
      rw [first]
      cases hr : e.retire with
      | once =>
        have shorter : ((front ++ back).map Entry.tag).Nodup :=
          h.sublist (((List.sublist_cons_self e back).append_left front).map _)
        have gone : listAfter f (e :: back) = listAfter f back := by simp [listAfter, fires, hr]
        rw [afterFiring_once hr apart.1, ih front shorter, gone]
      | repeated =>
        have stays : listAfter f (e :: back) =
            { e with fires := min (e.fires + 1) 65535, armed := false } :: listAfter f back := by
          simp [listAfter, fires, hr]
        rw [afterFiring_repeated hr apart.1 apart.2, List.append_cons,
          ih (front ++ [{ e with fires := min (e.fires + 1) 65535, armed := false }]) (moved _ rfl), stays, List.append_assoc]
        rfl
    · have kept : listAfter f (e :: back) = e :: listAfter f back := by simp [listAfter, fires]
      rw [List.filter_cons_of_neg fires, List.append_cons, ih (front ++ [e]) (moved e rfl), kept, List.append_assoc]
      rfl

theorem listFired_firing (f : Entry → Bool) {l : List Entry} (h : (l.map Entry.tag).Nodup) :
    listFired (l.filter f) l = listAfter f l := listFired_filter f [] l h

/-- With no entry firing, the list stays. -/
theorem listAfter_none {f : Entry → Bool} {l : List Entry} (h : l.filter f = []) : listAfter f l = l := by
  have none := List.filter_eq_nil_iff.mp h
  unfold listAfter
  refine (List.filterMap_congr fun e he => if_neg (none e he)).trans List.filterMap_some

theorem length_listRearmed (x : Axis) (h : Nat) (l : List Entry) : (listRearmed x h l).length = l.length :=
  List.length_map _

theorem listRearmed_eq_nil {x : Axis} {h : Nat} {l : List Entry} : listRearmed x h l = [] ↔ l = [] :=
  List.map_eq_nil_iff

/-! ### The marks of the firings -/

section
variable {n : AxisId} {d : Dir} {e : Entry} {w : Work} {s : State}

theorem fireWhole_routes (n : AxisId) (d : Dir) (s : State) (e : Entry) : (fireWhole n d s e).routes = s.routes := by
  rw [fireWhole_eq]
  rfl

/-- A firing, and its mark sent to the Route Table (R47). -/
theorem fireEntry_eq (n : AxisId) (d : Dir) (e : Entry) (w : Work) :
    fireEntry n d e w = { w with
      s := fireWhole n d w.s e
      events := if e.mark = 0 then w.events else w.events ++ [⟨.mark n e.mark, w.s.timebase.count⟩] } := by
  obtain ⟨lines, q, -, he⟩ := State.fired_outputsOnly n d w.s e
  have count : (fireActions n d e w.s).timebase.count = w.s.timebase.count := by
    rw [fireActions_eq, he]
  unfold fireEntry
  simp only [count]
  rfl

/-- What waits, and what the firings can send, is on no route. -/
structure Work.Unrouted (n : AxisId) (w : Work) : Prop where
  issues : w.issues = []
  events : ∀ e ∈ w.events, NoRouteOn w.s e.source
  marks : ∀ m, NoRouteOn w.s (.mark n m)

theorem NoRouteOn.of_routes {s t : State} {e : EventSource} (h : NoRouteOn s e) (hr : t.routes = s.routes) : NoRouteOn t e :=
  fun r => by rw [State.route, hr]; exact h r

theorem Work.Unrouted.of_routes (h : w.Unrouted n) {v : Work} (hi : v.issues = []) (hr : v.s.routes = w.s.routes)
    (he : ∀ e ∈ v.events, e ∈ w.events ∨ ∃ m, e.source = .mark n m) : v.Unrouted n := by
  refine ⟨hi, fun e hv => ?_, fun m => (h.marks m).of_routes hr⟩
  rcases he e hv with old | ⟨m, new⟩
  · exact (h.events e old).of_routes hr
  · rw [new]
    exact (h.marks m).of_routes hr

theorem Work.Unrouted.fireEntry (h : w.Unrouted n) (d : Dir) (e : Entry) : (fireEntry n d e w).Unrouted n := by
  rw [fireEntry_eq]
  refine h.of_routes h.issues (fireWhole_routes n d w.s e) fun x hx => ?_
  simp only at hx
  split at hx
  · exact .inl hx
  · rcases List.mem_append.mp hx with old | new
    · exact .inl old
    · exact .inr ⟨e.mark, by rw [List.mem_singleton.mp new]⟩

/-- Early steps on unrouted events take some of them. -/
theorem Work.Unrouted.routeSteps (h : w.Unrouted n) (busy : Option AxisId) (k : Nat) :
    routeSteps busy k w = { w with events := w.events.drop k } := by
  induction k generalizing w with
  | zero => rfl
  | succ k ih =>
    obtain ⟨s, events, issues, onMark, after⟩ := w
    obtain rfl : issues = [] := h.issues
    cases events with
    | nil => exact routeSteps_idle _ rfl rfl
    | cons e es =>
      have taken : routeStep busy ⟨s, e :: es, [], onMark, after⟩ = ⟨s, es, [], onMark, after⟩ :=
        takeEvent_of_no_route (by exact h.events e List.mem_cons_self)
      rw [Machine.routeSteps, taken]
      exact ih (h.of_routes rfl rfl fun x hx => .inl (List.mem_cons_of_mem e hx))

/-- With their marks on no route, the firings are one after another whatever the Route Table takes between them. -/
theorem fireAll_unrouted (n : AxisId) (d : Dir) (es : List Entry) (takes : List Nat) {w : Work} (h : w.Unrouted n) :
    fireAll n d es takes w = { w with s := es.foldl (fireWhole n d) w.s, events := [] } := by
  induction es generalizing takes w with
  | nil => exact settle_unrouted h.issues h.events
  | cons e es ih =>
    have fired := h.fireEntry d e
    cases takes with
    | nil =>
      rw [fireAll, settle_unrouted fired.issues fired.events, 
        ih _ (w := { fireEntry n d e w with events := [] })
          (fired.of_routes fired.issues rfl fun x hx => absurd hx List.not_mem_nil), fireEntry_eq]
      rfl
    | cons k ks =>
      rw [fireAll, fired.routeSteps, 
        ih _ (w := { fireEntry n d e w with events := (fireEntry n d e w).events.drop k })
          (fired.of_routes fired.issues rfl fun x hx => .inl (List.mem_of_mem_drop hx)), fireEntry_eq]
      rfl

end

/-! ### The end of a count -/

/-- The state after firings and re-arming: what the lines and the queue have become, the list that is left, the total
risen by so many, and the routes. -/
def State.afterCount (n : AxisId) (left : List Entry) (k : Nat) (r : Vector Route 16) (s acted : State) : State :=
  acted.overlay (s.free + ((s.sched n).active.length - left.length))
    (s.scheds.set n { s.sched n with active := left, total := (s.sched n).total + BitVec.ofNat 32 k }) r

section
variable {n : AxisId} {d : Dir} {s acted : State} {left : List Entry} {k : Nat} {r : Vector Route 16}

theorem State.afterCount_sched : (s.afterCount n left k r acted).sched n =
    { s.sched n with active := left, total := (s.sched n).total + BitVec.ofNat 32 k } := by
  simp [State.afterCount, State.overlay, State.sched]

theorem OutputsOnly.afterCount_axis (h : OutputsOnly s acted) (m : AxisId) :
    (s.afterCount n left k r acted).axis m = s.axis m := by
  obtain ⟨_, _, -, rfl⟩ := h
  rfl

theorem OutputsOnly.enables (h : OutputsOnly s acted) : acted.queue.enables = s.queue.enables := by
  obtain ⟨_, _, kept, rfl⟩ := h
  exact kept

/-- Re-arming (R41, R46). -/
theorem rearmSchedule_afterCount (h : OutputsOnly s acted) :
    rearmSchedule n (s.afterCount n left k r acted) =
      s.afterCount n (listRearmed (s.axis n) (s.sched n).h left) k r acted := by
  unfold rearmSchedule
  rw [State.afterCount_sched, h.afterCount_axis]
  simp only [State.afterCount, State.overlay, State.setSched, Vector.set_set, length_listRearmed]
  rfl

/-- The completion, if any, on no route (R61, R62). -/
theorem completeAtCount_unrouted (onMark after : List SchedAct)
    (h : (s.sched n).state = .running → (s.sched n).active = [] → NoRouteOn s (.schedDone n)) :
    completeAtCount n ⟨s, [], [], onMark, after⟩ = ⟨(completeIfEmpty n s).1, [], [], onMark, after⟩ := by
  unfold completeAtCount
  by_cases hd : (s.sched n).state = .running ∧ (s.sched n).active = []
  · rw [completeIfEmpty_done hd.1 hd.2]
    exact settle_unrouted rfl fun e he => by
      rw [List.mem_singleton.mp he]
      exact h hd.1 hd.2
  · rw [completeIfEmpty_not hd]
    exact settle_idle rfl rfl

/-- The end of a count with no route on a completion and no route action that waits (R62). -/
theorem endOfCount_unrouted (h : ((reachCommit n s).sched n).state = .running → ((reachCommit n s).sched n).active = [] →
    NoRouteOn (reachCommit n s) (.schedDone n)) :
    endOfCount n (Work.of s []) = (completeIfEmpty n (reachCommit n s)).1 := by
  unfold endOfCount
  rw [show ({ Work.of s [] with s := reachCommit n (Work.of s []).s } : Work) = ⟨reachCommit n s, [], [], [], []⟩ from rfl,
    completeAtCount_unrouted [] [] h]
  rfl

variable {x : Axis} {f : Entry → Bool}

/-- The firings and the re-arming of a count with no route on a mark (R46). -/
theorem countNotice_unrouted (takes : List Nat) (hr : (s.sched n).state = .running)
    (hm : ∀ m, NoRouteOn s (.mark n m)) (hx : s.axis n = x) (hf : x.fires d = f)
    (ht : ((s.sched n).active.map Entry.tag).Nodup) :
    countNotice n d takes s = endOfCount n (Work.of (s.afterCount n
      (listRearmed x (s.sched n).h (listAfter f (s.sched n).active)) ((s.sched n).active.filter f).length s.routes
      (((s.sched n).active.filter f).foldl (State.fired n d) s)) []) := by
  subst hx hf
  have unrouted : (Work.of s []).Unrouted n := ⟨rfl, fun e he => absurd he List.not_mem_nil, hm⟩
  have fired : ((s.sched n).active.filter ((s.axis n).fires d)).foldl (fireWhole n d) s =
      s.afterCount n (listAfter ((s.axis n).fires d) (s.sched n).active)
        ((s.sched n).active.filter ((s.axis n).fires d)).length s.routes
        (((s.sched n).active.filter ((s.axis n).fires d)).foldl (State.fired n d) s) := by
    rw [foldl_fireWhole, listFired_firing _ ht]
    rfl
  unfold countNotice
  rw [if_pos hr]
  simp only [fireAll_unrouted n d _ takes unrouted]
  rw [show (Work.of s []).s = s from rfl, fired, rearmSchedule_afterCount (foldl_fired_outputsOnly n d _ s)]
  rfl

theorem reachCommit_away (hx : s.axis n = x) (hc : ∀ run, (s.sched n).commit ≠ some (.atPosition x.position.value run)) :
    reachCommit n s = s := reachCommit_idle (by rw [hx]; exact hc)

/-- A count at which entries fire, with no route on a mark or on the completion, and no commit reached (R46 to R52,
R61, R62). -/
theorem countNotice_fires (takes : List Nat) (hr : (s.sched n).state = .running) (hm : ∀ m, NoRouteOn s (.mark n m))
    (hd : NoRouteOn s (.schedDone n)) (hx : s.axis n = x) (hf : x.fires d = f)
    (ht : ((s.sched n).active.map Entry.tag).Nodup)
    (hc : ∀ run, (s.sched n).commit ≠ some (.atPosition x.position.value run)) :
    let acted := ((s.sched n).active.filter f).foldl (State.fired n d) s
    let left := listRearmed x (s.sched n).h (listAfter f (s.sched n).active)
    countNotice n d takes s = { acted with
      free := s.free + ((s.sched n).active.length - left.length)
      scheds := s.scheds.set n { s.sched n with
        total := (s.sched n).total + BitVec.ofNat 32 ((s.sched n).active.filter f).length
        active := left
        state := if left = [] then .stopped else .running }
      queue := if left = [] then
          acted.queue.offer s.queue.enables.schedule ⟨.schedule n .done 0, acted.timebase.count, []⟩
        else acted.queue } := by
  intro acted left
  have outputs : OutputsOnly s acted := foldl_fired_outputsOnly n d _ s
  have routes : acted.routes = s.routes := by
    obtain ⟨_, _, -, he⟩ := outputs
    rw [he]
  rw [countNotice_unrouted takes hr hm hx hf ht]
  have away : reachCommit n (s.afterCount n left ((s.sched n).active.filter f).length s.routes acted) =
      s.afterCount n left ((s.sched n).active.filter f).length s.routes acted :=
    reachCommit_away (outputs.afterCount_axis n |>.trans hx) (by rw [State.afterCount_sched]; exact hc)
  rw [endOfCount_unrouted (fun _ _ => by rw [away]; exact hd), away]
  by_cases done : left = []
  · rw [completeIfEmpty_done (by rw [State.afterCount_sched]; exact hr) (by rw [State.afterCount_sched]; exact done),
      State.afterCount_sched]
    simp only [if_pos done, State.afterCount, State.overlay, Vector.set_set, outputs.enables, routes]
  · rw [completeIfEmpty_not (by rw [State.afterCount_sched]; exact fun h => done h.2)]
    simp only [if_neg done, ← hr, State.afterCount, State.overlay, routes]

theorem reachCommit_reached {run : Bool} (hx : s.axis n = x)
    (hc : (s.sched n).commit = some (.atPosition x.position.value run)) : reachCommit n s = installList n run s := by
  simp only [reachCommit, hc, hx, if_true]

/-- A count at which entries fire and a pending AT_POSITION commit is reached, with no route on a mark or on the
completion (R61, R62, R66, R67). -/
theorem countNotice_reaches {run : Bool} (takes : List Nat) (hr : (s.sched n).state = .running)
    (hm : ∀ m, NoRouteOn s (.mark n m)) (hd : NoRouteOn s (.schedDone n)) (hx : s.axis n = x) (hf : x.fires d = f)
    (ht : ((s.sched n).active.map Entry.tag).Nodup)
    (hc : (s.sched n).commit = some (.atPosition x.position.value run)) :
    let acted := ((s.sched n).active.filter f).foldl (State.fired n d) s
    let new := listArmed x (s.sched n).h (s.sched n).staging
    let committed := acted.queue.offer s.queue.enables.schedule
      ⟨.schedule n .committed new.length, acted.timebase.count, []⟩
    countNotice n d takes s = { acted with
      free := s.free + (s.sched n).active.length
      scheds := s.scheds.set n { s.sched n with
        total := (s.sched n).total + BitVec.ofNat 32 ((s.sched n).active.filter f).length
        active := new, staging := [], commit := none
        state := if new = [] then .stopped else .running }
      queue := if new = [] then
          committed.offer s.queue.enables.schedule ⟨.schedule n .done 0, acted.timebase.count, []⟩
        else committed } := by
  intro acted new committed
  have outputs : OutputsOnly s acted := foldl_fired_outputsOnly n d _ s
  have routes : acted.routes = s.routes := by
    obtain ⟨_, _, -, he⟩ := outputs
    rw [he]
  generalize hl : listRearmed x (s.sched n).h (listAfter f (s.sched n).active) = left
  generalize hk : ((s.sched n).active.filter f).length = k
  have slots : left.length ≤ (s.sched n).active.length := by
    rw [← hl, length_listRearmed, ← listFired_firing f ht]
    exact length_listFired_le _ _
  have free : s.free + ((s.sched n).active.length - left.length) + left.length = s.free + (s.sched n).active.length := by
    omega
  have installed : reachCommit n (s.afterCount n left k s.routes acted) = { acted with
      free := s.free + (s.sched n).active.length
      scheds := s.scheds.set n { s.sched n with
        total := (s.sched n).total + BitVec.ofNat 32 k
        active := new, staging := [], commit := none }
      queue := committed } := by
    rw [reachCommit_reached (outputs.afterCount_axis n |>.trans hx) (by rw [State.afterCount_sched]; exact hc),
      installList_eq, State.afterCount_sched, outputs.afterCount_axis, hx]
    have stays (l : List Entry) (b b' : Bool) : stateAfterCommit (s.sched n).state l b b' = (s.sched n).state := by
      rw [hr]
      rfl
    simp only [stays, State.afterCount, State.overlay, Vector.set_set, free, outputs.enables, routes]
    rfl
  have sched : (reachCommit n (s.afterCount n left k s.routes acted)).sched n = { s.sched n with
      total := (s.sched n).total + BitVec.ofNat 32 k
      active := new, staging := [], commit := none } := by
    rw [installed]
    simp [State.sched]
  have unheard : NoRouteOn (reachCommit n (s.afterCount n left k s.routes acted)) (.schedDone n) :=
    hd.of_routes (by rw [installed]; exact routes)
  have enables : committed.enables = s.queue.enables := (RecordQueue.offer_enables _ _ _).trans outputs.enables
  rw [countNotice_unrouted takes hr hm hx hf ht, hl, hk, endOfCount_unrouted fun _ _ => unheard]
  by_cases done : new = []
  · rw [completeIfEmpty_done (by rw [sched]; exact hr) (by rw [sched]; exact done), sched, installed]
    simp only [if_pos done, Vector.set_set, enables]
  · rw [completeIfEmpty_not (by rw [sched]; exact fun h => done h.2), installed]
    simp only [if_neg done, ← hr]

/-- A count that reaches a commit of a schedule that is not RUNNING (R66, R67). -/
theorem countNotice_installs {run : Bool} (takes : List Nat) (hr : (s.sched n).state ≠ .running) (hx : s.axis n = x)
    (hc : (s.sched n).commit = some (.atPosition x.position.value run)) :
    countNotice n d takes s = installList n run s := by
  rw [countNotice, if_neg hr, reachCommit_reached hx hc]

/-- A count with no entry firing and no commit reached, whatever the routes (R41, R46). -/
theorem countNotice_quiet (takes : List Nat) (hr : (s.sched n).state = .running) (hx : s.axis n = x)
    (hf : (s.sched n).active.filter (x.fires d) = []) (he : (s.sched n).active ≠ [])
    (hc : ∀ run, (s.sched n).commit ≠ some (.atPosition x.position.value run)) :
    countNotice n d takes s = s.setSched n { s.sched n with
      active := listRearmed x (s.sched n).h (s.sched n).active } := by
  have fired : fireAll n d [] takes (Work.of s []) = Work.of s [] := by
    unfold fireAll
    exact settle_idle rfl rfl
  have rearmed : rearmSchedule n s = s.setSched n { s.sched n with
      active := listRearmed x (s.sched n).h (s.sched n).active } := by rw [← hx]; rfl
  have away : reachCommit n (rearmSchedule n s) = rearmSchedule n s :=
    reachCommit_away (x := x) hx (by rw [rearmed, State.setSched_sched_same]; exact hc)
  have entries : ((rearmSchedule n s).sched n).active ≠ [] := by
    rw [rearmed, State.setSched_sched_same]
    exact fun h => he (listRearmed_eq_nil.mp h)
  unfold countNotice
  rw [if_pos hr, hx, hf]
  simp only [fired]
  rw [show ({ Work.of s [] with s := rearmSchedule n (Work.of s []).s } : Work) = Work.of (rearmSchedule n s) [] from rfl,
    endOfCount_unrouted (fun _ h => absurd h (by rw [away]; exact entries)), away,
    completeIfEmpty_not fun h => entries h.2, rearmed]

end

section
variable {s : State} {n : AxisId} {c : PairChange} {raw d : Dir} {p : Position}

/-- A count that moves its axis is one for its schedule (R6 to R9, R46). -/
theorem exec_countEvent (takes : List Nat) (hs : s.phase = .running) (hc : s.nextPair n = some c)
    (hr : rawCount (s.axis n).config.countMode (s.axis n).decoder.a (s.axis n).decoder.b c.a c.b = some raw)
    (hd : d = (s.axis n).config.direct raw)
    (hp : countPosition (s.axis n).config.cpr d (s.axis n).position = some p) :
    exec (.countEvent n takes) s = .next (countNotice n d takes ((s.takePair n c).setAxis n
      { s.axis n with position := p, lastDir := d, decoder := { (s.axis n).decoder with a := c.a, b := c.b } })) := by
  refine congrArg Host.Outcome.next ((whenRunning_running _ hs).trans ?_)
  rw [countEvent_eq takes hc hr, ← hd, applyCount_moves (p := p) takes (by simpa using hp), State.takePair_axis_same]

theorem Axis.fires_eq {x : Axis} (h : x.ref = .referenced) (d : Dir) : x.fires d = Entry.firesAt x.position d := by
  funext e
  unfold Axis.fires Entry.firesAt
  rw [decide_eq_true h, Bool.true_and]
  cases e.dir <;> cases d <;> rfl

theorem Axis.fires_eq_false {x : Axis} {d : Dir} {e : Entry}
    (h : x.ref ≠ .referenced ∨ e.armed = false ∨ e.position ≠ x.position.value ∨ (e.dir = .up ∧ d = .down) ∨
      (e.dir = .down ∧ d = .up)) : x.fires d e = false := by
  unfold Axis.fires
  rcases h with ref | armed | position | ⟨up, down⟩ | ⟨down, up⟩
  · simp [ref]
  · simp [armed]
  · simp [position]
  · simp [up, down, EntryDir.accepts]
  · simp [up, down, EntryDir.accepts]

/-- The arming distance on a circle is the nearest (R40). -/
theorem Axis.distance_rotary {a : Axis} {turn : Word32} {angle q : Nat} (h : a.position = .rotary turn angle)
    (ha : angle < a.config.cpr) (hq : q < a.config.cpr) : a.distance q ≤ a.config.cpr / 2 ∧
      ∃ k : Int, (a.distance q : Int) = ((angle : Int) - q + k * a.config.cpr).natAbs := by
  simp only [Axis.distance, h]
  refine ⟨by omega, ?_⟩
  by_cases near : ((angle : Int) - q).natAbs ≤ a.config.cpr - ((angle : Int) - q).natAbs
  · exact ⟨0, by rw [min_eq_left near, Int.zero_mul, Int.add_zero]⟩
  · by_cases above : (q : Int) ≤ angle
    · exact ⟨-1, by omega⟩
    · exact ⟨1, by omega⟩

theorem Axis.distance_linear {a : Axis} {x q : Int} (h : a.position = .linear x) : (a.distance q : Int) = |x - q| := by
  simp only [Axis.distance, h]
  exact Int.natCast_natAbs _

end

end Sys2Proof.Machine

namespace Sys2Proof.Proofs

open Sys2Proof.Machine

/-- Settles O19: with no entry firing a count is its re-arming. -/
theorem countWithoutFiringRearmsByDistance : Obligations.CountWithoutFiringRearmsByDistance := by
  refine ⟨?count, fun a turn angle q => Axis.distance_rotary, fun a x q => Axis.distance_linear⟩
  case count =>
    intro s n takes c raw d p hs hc run entries hr hd hp away quiet moved
    have none : (s.sched n).active.filter (moved.fires d) = [] := List.filter_eq_nil_iff.mpr fun e he => by
      rw [Axis.fires_eq_false (quiet e he)]
      decide
    have counted := countNotice_quiet (s := (s.takePair n c).setAxis n moved) takes run (State.setAxis_axis_same ..)
      none entries away
    refine (exec_countEvent takes hs hc hr (hd.trans (AxisConfig.direct_eq _ raw).symm) hp).trans
      (congrArg Host.Outcome.next (counted.trans ?_))
    simp only [State.setAxis, axes_set_takePair]
    rfl

/-- Settles O20: the firings one after another, the re-arming, and the completion of a list that has become empty. -/
theorem firingCountsDisarmsRetiresAndReports : Obligations.FiringCountsDisarmsRetiresAndReports := by
  intro s n takes c raw d p hs hc run href hr hd hp away tags marks done moved firing acted left
  have counted := countNotice_fires (s := (s.takePair n c).setAxis n moved) takes run marks done
    (State.setAxis_axis_same ..) (Axis.fires_eq (x := moved) href d) tags away
  exact (exec_countEvent takes hs hc hr (hd.trans (AxisConfig.direct_eq _ raw).symm) hp).trans
    (congrArg Host.Outcome.next counted)

/-- Settles O21: the commit is taken at the end of the count, after the firings if the schedule is RUNNING. -/
theorem countReachesAnAtPositionCommit : Obligations.CountReachesAnAtPositionCommit := by
  constructor
  · intro s n takes c raw d p run hs hc idle hr hd hp pends moved new u
    have counted := countNotice_installs (s := (s.takePair n c).setAxis n moved) (d := d) takes idle
      (State.setAxis_axis_same ..) pends
    refine (exec_countEvent takes hs hc hr (hd.trans (AxisConfig.direct_eq _ raw).symm) hp).trans
      (congrArg Host.Outcome.next (counted.trans ?_))
    rw [installList_eq, stateAfterCommit_eq, State.setAxis_axis_same]
    have order : ((s.sched n).state = .stopped ∧ listArmed moved (s.sched n).h (s.sched n).staging ≠ [] ∧ run = true ∧
        moved.ref = .referenced) ↔ ((s.sched n).state = .stopped ∧ run = true ∧ (s.axis n).ref = .referenced ∧
        listArmed moved (s.sched n).h (s.sched n).staging ≠ []) :=
      and_congr_right fun _ => ⟨fun ⟨entries, flag, ref⟩ => ⟨flag, ref, entries⟩,
        fun ⟨flag, ref, entries⟩ => ⟨entries, flag, ref⟩⟩
    simp only [State.setAxis_sched, State.takePair_sched, order]
    simp only [State.setAxis, axes_set_takePair]
    rfl
  · intro s n takes c raw d p _ hs hc run href hr hd hp pends tags marks done moved firing acted new committed
    have counted := countNotice_reaches (s := (s.takePair n c).setAxis n moved) takes run marks done
      (State.setAxis_axis_same ..) (Axis.fires_eq (x := moved) href d) tags pends
    exact (exec_countEvent takes hs hc hr (hd.trans (AxisConfig.direct_eq _ raw).symm) hp).trans
      (congrArg Host.Outcome.next counted)

end Sys2Proof.Proofs
end

section
/-! SUPPORT and the settling of O22 and O23. The route actions on the events of a count: those of a mark, issued before
or after a later firing, those that wait for the schedule, and those on the completion. -/

namespace Sys2Proof.Machine

section
variable {s acted : State} {n : AxisId} {d : Dir} {w : Work} {e : Entry} {i j : RouteId}

/-- The last firing of a count, and everything on its mark (R46, R50). -/
theorem fireAll_last (takes : List Nat) : fireAll n d [e] takes w = settle (some n) (fireEntry n d e w) := by
  cases takes with
  | nil => exact settle_routeSteps (some n) _ (fireEntry n d e w)
  | cons k ks => exact settle_routeSteps (some n) k (fireEntry n d e w)

/-- With one ready route on the event, its action is issued (R106). -/
theorem settle_ready {busy : Option AxisId} {source : EventSource} {src : RouteSource} {a : RouteAction} (time : Ticks)
    (hr : (s.route i).Ready src a) (hm : src.matchesEvent source = true)
    (ho : ∀ j, j ≠ i → (s.route j).hit source = false) :
    settle busy (Work.of s [⟨source, time⟩]) = settle busy (issueRoute busy ⟨⟨source, time⟩, s.axes, i⟩
      (Work.of { s with routes := s.routes.set i (s.route i).actedOnce } [])) := by
  obtain ⟨counted, issued⟩ := countRoutes_one (routes := s.routes) (hr.acts hm) ho
  rw [settle_event rfl rfl, settle_issue (i := ⟨⟨source, time⟩, s.axes, i⟩) (rest := [])
    (by simp only [takeEvent, Work.of, issued, List.map_cons, List.map_nil])]
  simp only [takeEvent, Work.of, counted]
  rfl

/-- The action that a route holds is the one issued. -/
theorem issueRoute_capture {busy : Option AxisId} {x : Issue} {set : AxisSet}
    (h : (w.s.route x.route).action = some (.capture set)) : issueRoute busy x w = { w with
      s := w.s.produce ⟨.capture (some x.route) x.event.source.captureSource (w.s.route x.route).divider, x.event.time,
        posWords x.axes set⟩ } := by
  simp only [issueRoute, h]

theorem issueRoute_output {busy : Option AxisId} {x : Issue} {l : LineId} {act : OutAction}
    (h : (w.s.route x.route).action = some (.output l act)) :
    issueRoute busy x w = { w with s := issueAction l act w.s } := by
  simp only [issueRoute, h]

theorem issueRoute_start {busy : Option AxisId} {x : Issue} {m : AxisId}
    (h : (w.s.route x.route).action = some (.start m)) : issueRoute busy x w = reachSchedule busy x.event m .start w := by
  simp only [issueRoute, h]

theorem issueRoute_stop {busy : Option AxisId} {x : Issue} {m : AxisId}
    (h : (w.s.route x.route).action = some (.stop m)) : issueRoute busy x w = reachSchedule busy x.event m .stop w := by
  simp only [issueRoute, h]

theorem issueRoute_commit {busy : Option AxisId} {x : Issue} {m : AxisId}
    (h : (w.s.route x.route).action = some (.commit m)) : issueRoute busy x w = reachSchedule busy x.event m .commit w := by
  simp only [issueRoute, h]

/-- A schedule that evaluates a count keeps an action on a mark waiting for the end of the count (R62, item 3). -/
theorem reachSchedule_mark (k : Fin 4) (time : Ticks) (act : SchedAct) :
    reachSchedule (some n) ⟨.mark n k, time⟩ n act (Work.of s []) = ⟨s, [], [], [act], []⟩ := by
  rw [reachSchedule, if_pos rfl]
  rfl

/-- And one on its completion until after the count (R63). -/
theorem reachSchedule_done (time : Ticks) (act : SchedAct) :
    reachSchedule (some n) ⟨.schedDone n, time⟩ n act (Work.of s []) = ⟨s, [], [], [], [act]⟩ := by
  rw [reachSchedule, if_pos rfl]
  rfl

theorem OutputsOnly.axis (h : OutputsOnly s acted) (m : AxisId) : acted.axis m = s.axis m := by
  obtain ⟨_, _, -, rfl⟩ := h
  rfl

/-! ### The actions that have waited -/

/-- What follows the completion at the end of a count: item 3 of R62, and the actions of R63 and R109. -/
def afterCompletion (n : AxisId) (w : Work) : State :=
  let marked := w.onMark.foldl (takeWaiting (some n) n) w
  (marked.after.foldl (takeWaiting none n) marked).s

theorem endOfCount_eq (n : AxisId) (w : Work) :
    endOfCount n w = afterCompletion n (completeAtCount n { w with s := reachCommit n w.s }) := rfl

/-- A commit of a STOPPED schedule whose axis is REFERENCED: the run flag decides (Table 3-3). -/
theorem takeCommit_stopped (run : Bool) (hs : (s.sched n).state = .stopped) (hr : (s.axis n).ref = .referenced) :
    takeCommit n run s = ({ s with
      free := s.free + (s.sched n).active.length
      scheds := s.scheds.set n { s.sched n with
        active := listArmed (s.axis n) (s.sched n).h (s.sched n).staging
        staging := []
        commit := none
        state := if run = true ∧ listArmed (s.axis n) (s.sched n).h (s.sched n).staging ≠ [] then .running else .stopped }
      queue := s.queue.offer s.queue.enables.schedule ⟨.schedule n .committed
        (listArmed (s.axis n) (s.sched n).h (s.sched n).staging).length, s.timebase.count, []⟩ }, []) := by
  have starts : (listArmed (s.axis n) (s.sched n).h (s.sched n).staging ≠ [] ∧ run = true) ↔
      run = true ∧ listArmed (s.axis n) (s.sched n).h (s.sched n).staging ≠ [] := and_comm
  have idle : ¬(SchedState.stopped = .running ∧ listArmed (s.axis n) (s.sched n).h (s.sched n).staging = []) :=
    fun h => absurd h.1 (by decide)
  rw [takeCommit_eq]
  simp only [hs, hr, true_and, and_true, starts, if_neg idle]

/-- A commit of a RUNNING schedule, which completes it when the new list is empty (R61, Table 3-3). -/
theorem takeCommit_running (run : Bool) (hs : (s.sched n).state = .running) :
    let new := listArmed (s.axis n) (s.sched n).h (s.sched n).staging
    let committed := s.queue.offer s.queue.enables.schedule ⟨.schedule n .committed new.length, s.timebase.count, []⟩
    takeCommit n run s = ({ s with
      free := s.free + (s.sched n).active.length
      scheds := s.scheds.set n { s.sched n with
        active := new, staging := [], commit := none, state := if new = [] then .stopped else .running }
      queue := if new = [] then
          committed.offer s.queue.enables.schedule ⟨.schedule n .done 0, s.timebase.count, []⟩
        else committed }, if new = [] then [⟨.schedDone n, s.timebase.count⟩] else []) := by
  have starts : ¬(SchedState.running = .stopped ∧ listArmed (s.axis n) (s.sched n).h (s.sched n).staging ≠ [] ∧
      run = true ∧ (s.axis n).ref = .referenced) := fun h => absurd h.1 (by decide)
  rw [takeCommit_eq]
  simp only [hs, if_neg starts, true_and]

/-- One action that has waited since the completion, and causes no event on a route. -/
theorem afterCompletion_after (act : SchedAct)
    (h : ∀ e ∈ (takeSchedAct n act s).2, NoRouteOn (takeSchedAct n act s).1 e.source) :
    afterCompletion n ⟨s, [], [], [], [act]⟩ = (takeSchedAct n act s).1 := by
  have taken : takeWaiting none n ⟨s, [], [], [], [act]⟩ act = ⟨(takeSchedAct n act s).1, [], [], [], [act]⟩ :=
    settle_unrouted rfl h
  change (takeWaiting none n ⟨s, [], [], [], [act]⟩ act).s = _
  rw [taken]

/-- One action that has waited since its mark, and causes no event on a route. -/
theorem afterCompletion_mark (act : SchedAct)
    (h : ∀ e ∈ (takeSchedAct n act s).2, NoRouteOn (takeSchedAct n act s).1 e.source) :
    afterCompletion n ⟨s, [], [], [act], []⟩ = (takeSchedAct n act s).1 := by
  have taken : takeWaiting (some n) n ⟨s, [], [], [act], []⟩ act = ⟨(takeSchedAct n act s).1, [], [], [act], []⟩ :=
    settle_unrouted rfl h
  change ((takeWaiting (some n) n ⟨s, [], [], [act], []⟩ act).after.foldl (takeWaiting none n)
    (takeWaiting (some n) n ⟨s, [], [], [act], []⟩ act)).s = _
  rw [taken]
  rfl

/-- The end of a count after which entries are left, and no commit is reached (R62). -/
theorem countNotice_ends {x : Axis} {f : Entry → Bool} {k : Nat} {r : Vector Route 16} {onMark : List SchedAct}
    {takes : List Nat} (hr : (s.sched n).state = .running) (hx : s.axis n = x) (hf : x.fires d = f)
    (hc : ∀ run, (s.sched n).commit ≠ some (.atPosition x.position.value run)) (ho : OutputsOnly s acted)
    (hl : listRearmed x (s.sched n).h (listAfter f (s.sched n).active) ≠ [])
    (hw : fireAll n d ((s.sched n).active.filter f) takes (Work.of s []) =
      ⟨s.afterCount n (listAfter f (s.sched n).active) k r acted, [], [], onMark, []⟩) :
    countNotice n d takes s = afterCompletion n ⟨s.afterCount n
      (listRearmed x (s.sched n).h (listAfter f (s.sched n).active)) k r acted, [], [], onMark, []⟩ := by
  have away : reachCommit n (s.afterCount n (listRearmed x (s.sched n).h (listAfter f (s.sched n).active)) k r acted) =
      s.afterCount n (listRearmed x (s.sched n).h (listAfter f (s.sched n).active)) k r acted :=
    reachCommit_away (ho.afterCount_axis n |>.trans hx) (by rw [State.afterCount_sched]; exact hc)
  unfold countNotice
  rw [if_pos hr, hx, hf]
  simp only [hw]
  rw [rearmSchedule_afterCount ho, hx, endOfCount_eq]
  simp only [away]
  rw [completeAtCount_unrouted onMark [] fun _ he => absurd he (by rw [State.afterCount_sched]; exact hl),
    completeIfEmpty_not (by rw [State.afterCount_sched]; exact fun h => hl h.2)]

/-- The end of a count that completes its schedule, with one ready route on the completion (R61 to R63). -/
theorem endOfCount_completes {a : RouteAction} (hr : (s.sched n).state = .running) (he : (s.sched n).active = [])
    (hc : ∀ run, (s.sched n).commit ≠ some (.atPosition (s.axis n).position.value run))
    (hready : (s.route i).Ready (.schedDone n) a) (ho : ∀ j, j ≠ i → (s.route j).hit (.schedDone n) = false) :
    endOfCount n (Work.of s []) = afterCompletion n (settle (some n) (issueRoute (some n)
      ⟨⟨.schedDone n, s.timebase.count⟩, s.axes, i⟩ (Work.of { s with
        scheds := s.scheds.set n { s.sched n with state := .stopped }
        queue := s.queue.offer s.queue.enables.schedule ⟨.schedule n .done 0, s.timebase.count, []⟩
        routes := s.routes.set i (s.route i).actedOnce } []))) := by
  rw [endOfCount_eq]
  refine congrArg (afterCompletion n) ?_
  unfold completeAtCount
  simp only [Work.of, reachCommit_idle hc, completeIfEmpty_done hr he, List.nil_append]
  exact settle_ready (s := { s with
    scheds := s.scheds.set n { s.sched n with state := .stopped }
    queue := s.queue.offer s.queue.enables.schedule ⟨.schedule n .done 0, s.timebase.count, []⟩ })
    s.timebase.count hready (by simp [RouteSource.matchesEvent]) ho

/-- A count with one firing entry whose mark has one ready route: the route's action is issued after the firing (R50). -/
theorem fireAll_marked {f : Entry → Bool} {a : RouteAction} (takes : List Nat)
    (ht : ((s.sched n).active.map Entry.tag).Nodup) (hf : (s.sched n).active.filter f = [e]) (hm : e.mark ≠ 0)
    (hready : (s.route i).Ready (.mark n e.mark) a) (ho : ∀ j, j ≠ i → (s.route j).hit (.mark n e.mark) = false) :
    fireAll n d [e] takes (Work.of s []) = settle (some n) (issueRoute (some n)
      ⟨⟨.mark n e.mark, s.timebase.count⟩, s.axes, i⟩ (Work.of (s.afterCount n (listAfter f (s.sched n).active) 1
        (s.routes.set i (s.route i).actedOnce) (s.fired n d e)) [])) := by
  have outputs := State.fired_outputsOnly n d s e
  have fired : fireWhole n d s e = s.afterCount n (listAfter f (s.sched n).active) 1 s.routes (s.fired n d e) := by
    have all := foldl_fireWhole n d [e] s
    rw [← hf, listFired_firing f ht, hf] at all
    exact all
  have axes : (s.fired n d e).axes = s.axes := by
    obtain ⟨_, _, -, he⟩ := outputs
    rw [he]
  have sent : fireEntry n d e (Work.of s []) = Work.of (fireWhole n d s e) [⟨.mark n e.mark, s.timebase.count⟩] := by
    rw [fireEntry_eq, if_neg hm]
    rfl
  rw [fireAll_last, sent, fired]
  rw [settle_ready (s := s.afterCount n (listAfter f (s.sched n).active) 1 s.routes (s.fired n d e)) (i := i) (a := a)
    (src := .mark n e.mark) s.timebase.count hready (by simp [RouteSource.matchesEvent]) ho]
  rw [← axes]
  rfl

/-- A count whose firings retire the last entry, with no route on a mark and one ready route on the completion (R61 to
R63). -/
theorem countNotice_completes {x : Axis} {f : Entry → Bool} {a : RouteAction} (takes : List Nat)
    (hr : (s.sched n).state = .running) (hm : ∀ m, NoRouteOn s (.mark n m)) (hx : s.axis n = x) (hf : x.fires d = f)
    (ht : ((s.sched n).active.map Entry.tag).Nodup)
    (hc : ∀ run, (s.sched n).commit ≠ some (.atPosition x.position.value run))
    (hl : listAfter f (s.sched n).active = []) (hready : (s.route i).Ready (.schedDone n) a)
    (ho : ∀ j, j ≠ i → (s.route j).hit (.schedDone n) = false) :
    let acted := ((s.sched n).active.filter f).foldl (State.fired n d) s
    countNotice n d takes s = afterCompletion n (settle (some n) (issueRoute (some n)
      ⟨⟨.schedDone n, acted.timebase.count⟩, s.axes, i⟩ (Work.of { acted with
        free := s.free + (s.sched n).active.length
        routes := s.routes.set i (s.route i).actedOnce
        scheds := s.scheds.set n { s.sched n with
          total := (s.sched n).total + BitVec.ofNat 32 ((s.sched n).active.filter f).length
          active := []
          state := .stopped }
        queue := acted.queue.offer s.queue.enables.schedule ⟨.schedule n .done 0, acted.timebase.count, []⟩ } []))) := by
  intro acted
  have outputs : OutputsOnly s acted := foldl_fired_outputsOnly n d _ s
  have axes : acted.axes = s.axes := by
    obtain ⟨_, _, -, he⟩ := outputs
    rw [he]
  rw [countNotice_unrouted takes hr hm hx hf ht, hl]
  rw [show listRearmed x (s.sched n).h [] = [] from rfl]
  rw [endOfCount_completes (s := s.afterCount n [] ((s.sched n).active.filter f).length s.routes acted) (i := i) (a := a) (by rw [State.afterCount_sched]; exact hr)
    (by rw [State.afterCount_sched]) (by rw [State.afterCount_sched, outputs.afterCount_axis, hx]; exact hc) hready ho,
    State.afterCount_sched]
  simp only [State.afterCount, State.overlay, Vector.set_set, List.length_nil, Nat.sub_zero]
  rw [← axes, ← outputs.enables]
  rfl

end

/-! ### Two output actions on one mark -/

/-- An output action of a route: the route, the line and the action. -/
abbrev RouteOutput := RouteId × LineId × OutAction

/-- The state after output actions one after another. -/
def issueOutputs (ps : List RouteOutput) (s : State) : State := ps.foldl (fun t p => issueAction p.2.1 p.2.2 t) s

section
variable {s acted : State} {n : AxisId} {d : Dir}

theorem issueOutputs_outputsOnly (ps : List RouteOutput) (s : State) : OutputsOnly s (issueOutputs ps s) := by
  induction ps generalizing s with
  | nil => exact .refl s
  | cons p ps ih => exact (issueAction_outputsOnly p.2.1 p.2.2 s).trans (ih _)

theorem issueOutputs_overlay (ps : List RouteOutput) (f : Nat) (v : Vector Schedule 4) (r : Vector Route 16) (s : State) :
    issueOutputs ps (s.overlay f v r) = (issueOutputs ps s).overlay f v r := by
  induction ps generalizing s with
  | nil => rfl
  | cons p ps ih =>
    calc issueOutputs ps (issueAction p.2.1 p.2.2 (s.overlay f v r))
      _ = issueOutputs ps ((issueAction p.2.1 p.2.2 s).overlay f v r) := by rw [issueAction_overlay]
      _ = _ := ih _

/-- Output actions that stand to be issued are issued, and the events that follow are on no route. -/
theorem settle_outputs {busy : Option AxisId} (e : SourceEvent) (axes : Vector Axis 4) (ps : List RouteOutput)
    (events : List SourceEvent) (hp : ∀ p ∈ ps, (s.route p.1).action = some (.output p.2.1 p.2.2))
    (he : ∀ e ∈ events, NoRouteOn s e.source) :
    settle busy ⟨s, events, ps.map fun p => ⟨e, axes, p.1⟩, [], []⟩ = Work.of (issueOutputs ps s) [] := by
  induction ps generalizing s with
  | nil => exact settle_unrouted rfl he
  | cons p ps ih =>
    obtain ⟨first, others⟩ := List.forall_mem_cons.mp hp
    have routes : (issueAction p.2.1 p.2.2 s).routes = s.routes := by
      obtain ⟨_, _, -, same⟩ := issueAction_outputsOnly p.2.1 p.2.2 s
      rw [same]
    have route (r : RouteId) : (issueAction p.2.1 p.2.2 s).route r = s.route r := by rw [State.route, routes]; rfl
    rw [settle_issue (i := ⟨e, axes, p.1⟩) (rest := ps.map fun p => ⟨e, axes, p.1⟩) rfl, issueRoute_output (by exact first)]
    exact ih (fun q hq => by rw [route]; exact others q hq) fun e' hev => (he e' hev).of_routes routes

/-- One more firing (R47, R51, R52). -/
theorem fireWhole_afterCount {l : List Entry} {k : Nat} {r : Vector Route 16} (e : Entry)
    (hl : l.length ≤ (s.sched n).active.length) :
    fireWhole n d (s.afterCount n l k r acted) e = s.afterCount n (afterFiring e l) (k + 1) r (acted.fired n d e) := by
  have shorter := length_afterFiring_le e l
  have free : s.free + ((s.sched n).active.length - l.length) + (l.length - (afterFiring e l).length) =
      s.free + ((s.sched n).active.length - (afterFiring e l).length) := by omega
  have total : (s.sched n).total + BitVec.ofNat 32 k + 1#32 = (s.sched n).total + BitVec.ofNat 32 (k + 1) := by
    rw [BitVec.add_assoc, BitVec.ofNat_add]
  rw [fireWhole_eq, State.afterCount_sched]
  unfold State.afterCount
  rw [State.fired_overlay, State.overlay_overlay]
  simp only [total]
  change State.overlay (_ + _ + _) ((s.scheds.set n _).set n _) r _ = _
  rw [free, Vector.set_set]

theorem State.afterCount_none (n : AxisId) (s : State) : s.afterCount n (s.sched n).active 0 s.routes s = s := by
  have total : (s.sched n).total + BitVec.ofNat 32 0 = (s.sched n).total := BitVec.add_zero _
  simp only [State.afterCount, total, Nat.sub_self, Nat.add_zero]
  change State.overlay s.free (s.scheds.set n (s.sched n)) s.routes s = s
  rw [scheds_set_self]
  rfl

/-- A route with an output action reaches no schedule, so it is shadowed by none (R110). -/
theorem shadowedOn_output {routes : Vector Route 16} {e : EventSource} {j : RouteId} {l : LineId} {act : OutAction}
    (h : routes[j].action = some (.output l act)) : shadowedOn routes e j = false := by
  have none : routes[j].target = none := by rw [Route.target, h]; rfl
  unfold shadowedOn
  rw [none]

/-- So many steps issue so many of the output actions that stand to be issued. -/
theorem routeSteps_outputs {busy : Option AxisId} (e : SourceEvent) (axes : Vector Axis 4) (ps : List RouteOutput)
    (m : Nat) (hp : ∀ p ∈ ps, (s.route p.1).action = some (.output p.2.1 p.2.2)) :
    routeSteps busy m ⟨s, [], ps.map fun p => ⟨e, axes, p.1⟩, [], []⟩ =
      ⟨issueOutputs (ps.take m) s, [], (ps.drop m).map fun p => ⟨e, axes, p.1⟩, [], []⟩ := by
  induction m generalizing ps s with
  | zero => rfl
  | succ m ih =>
    cases ps with
    | nil => exact routeSteps_idle _ rfl rfl
    | cons p ps =>
      obtain ⟨first, others⟩ := List.forall_mem_cons.mp hp
      have routes : (issueAction p.2.1 p.2.2 s).routes = s.routes := by
        obtain ⟨_, _, -, same⟩ := issueAction_outputsOnly p.2.1 p.2.2 s
        rw [same]
      have issued : routeStep busy ⟨s, [], (p :: ps).map fun p => ⟨e, axes, p.1⟩, [], []⟩ =
          ⟨issueAction p.2.1 p.2.2 s, [], ps.map fun p => ⟨e, axes, p.1⟩, [], []⟩ := issueRoute_output (by exact first)
      rw [routeSteps, issued]
      exact ih ps fun q hq => by
        rw [State.route, routes]
        exact others q hq

/-- Two firings, the first with two routes with output actions on its mark: `takes` says how many of the two are issued
before the second firing (R50). -/
theorem fireAll_two {f : Entry → Bool} {e1 e2 : Entry} {i j : RouteId} {li lj : LineId} {ai aj : OutAction}
    (takes : List Nat) (ht : ((s.sched n).active.map Entry.tag).Nodup) (hf : (s.sched n).active.filter f = [e1, e2])
    (hm : e1.mark ≠ 0) (hq : NoRouteOn s (.mark n e2.mark)) (hij : i < j)
    (hi : (s.route i).Ready (.mark n e1.mark) (.output li ai))
    (hj : (s.route j).Ready (.mark n e1.mark) (.output lj aj))
    (ho : ∀ h, h ≠ i → h ≠ j → (s.route h).hit (.mark n e1.mark) = false) {early : Nat}
    (he : early = takes.headD 3 - 1) {ps : List RouteOutput} (hp : ps = [(i, li, ai), (j, lj, aj)]) :
    fireAll n d [e1, e2] takes (Work.of s []) = ⟨s.afterCount n (listAfter f (s.sched n).active) 2
      ((s.routes.set i (s.route i).actedOnce).set j (s.route j).actedOnce)
      (issueOutputs (ps.drop early) ((issueOutputs (ps.take early) (s.fired n d e1)).fired n d e2)), [], [], [], []⟩ := by
  subst he
  have marked : RouteSource.matchesEvent (.mark n e1.mark) (.mark n e1.mark) = true := by simp [RouteSource.matchesEvent]
  obtain ⟨counted, issued⟩ := countRoutes_two (routes := s.routes) hij (hi.acts marked) (hj.acts marked) ho
  rw [shadowedOn_output (routes := s.routes) hj.action] at counted issued
  generalize hr : (s.routes.set i (s.route i).actedOnce).set j (s.route j).actedOnce = r
  have routes : countRoutes s.routes (.mark n e1.mark) = r := counted.trans hr
  have actions : ∀ p ∈ ps, r[p.1].action = some (.output p.2.1 p.2.2) := by
    have kept (q : RouteId) : r[q].action = (s.route q).action := by
      rw [← routes, countRoutes_get, Route.count_action]
      rfl
    intro p hps
    rw [hp] at hps
    rcases List.mem_cons.mp hps with rfl | hps
    · exact (kept i).trans hi.action
    · rw [List.mem_singleton.mp hps]
      exact (kept j).trans hj.action
  have unheard (t : State) (h : t.routes = r) : NoRouteOn t (.mark n e2.mark) :=
    (hq.counted (.mark n e1.mark)).of_routes (h.trans routes.symm)
  generalize hl : afterFiring e1 (s.sched n).active = l
  have list : afterFiring e2 l = listAfter f (s.sched n).active := by
    have both := listFired_firing f ht
    rw [hf] at both
    rw [← hl, ← both]
    rfl
  have length : l.length ≤ (s.sched n).active.length := hl ▸ length_afterFiring_le e1 _
  have first : fireEntry n d e1 (Work.of s []) =
      Work.of (s.afterCount n l 1 s.routes (s.fired n d e1)) [⟨.mark n e1.mark, s.timebase.count⟩] := by
    have whole := fireWhole_afterCount (d := d) (acted := s) (k := 0) (r := s.routes) e1 (le_refl (s.sched n).active.length)
    rw [State.afterCount_none, hl] at whole
    rw [fireEntry_eq, if_neg hm]
    simp only [Work.of, whole, List.nil_append]
  have taken (t : State) (events : List SourceEvent) (h : t.routes = s.routes) :
      takeEvent ⟨.mark n e1.mark, s.timebase.count⟩ ⟨t, events, [], [], []⟩ = ⟨{ t with routes := r }, events,
        ps.map fun p => ⟨⟨.mark n e1.mark, s.timebase.count⟩, t.axes, p.1⟩, [], []⟩ := by
    simp only [takeEvent, h, routes, issued, hp]
    rfl
  have second (axes : Vector Axis 4) (front back : List RouteOutput) (hb : ∀ p ∈ back, p ∈ ps) :
      settle (some n) (fireEntry n d e2 ⟨issueOutputs front (s.afterCount n l 1 r (s.fired n d e1)), [],
        back.map fun p => ⟨⟨.mark n e1.mark, s.timebase.count⟩, axes, p.1⟩, [], []⟩) =
      Work.of (s.afterCount n (listAfter f (s.sched n).active) 2 r
        (issueOutputs back ((issueOutputs front (s.fired n d e1)).fired n d e2))) [] := by
    have issuedFirst : issueOutputs front (s.afterCount n l 1 r (s.fired n d e1)) =
        s.afterCount n l 1 r (issueOutputs front (s.fired n d e1)) := issueOutputs_overlay ..
    rw [issuedFirst, fireEntry_eq]
    simp only [fireWhole_afterCount e2 length, list]
    rw [settle_outputs]
    · exact congrArg (Work.of · []) (issueOutputs_overlay ..)
    · exact fun p hp => actions p (hb p hp)
    · intro e he
      split at he
      · exact absurd he List.not_mem_nil
      · rw [List.mem_singleton.mp he]
        exact unheard _ rfl
  have taken_first : routeStep (some n) (Work.of (s.afterCount n l 1 s.routes (s.fired n d e1))
      [⟨.mark n e1.mark, s.timebase.count⟩]) = ⟨s.afterCount n l 1 r (s.fired n d e1), [],
        ps.map fun p => ⟨⟨.mark n e1.mark, s.timebase.count⟩, (s.fired n d e1).axes, p.1⟩, [], []⟩ := taken _ [] rfl
  cases takes with
  | nil =>
    have all : settle (some n) (Work.of (s.afterCount n l 1 s.routes (s.fired n d e1))
        [⟨.mark n e1.mark, s.timebase.count⟩]) =
        Work.of (issueOutputs ps (s.afterCount n l 1 r (s.fired n d e1))) [] := by
      rw [← settle_routeStep, taken_first]
      exact settle_outputs _ _ ps [] actions fun e he => absurd he List.not_mem_nil
    rw [fireAll, fireAll_last, first, all]
    subst hp
    exact second s.axes _ [] fun p hp => absurd hp List.not_mem_nil
  | cons k ks =>
    rw [fireAll, fireAll_last, first]
    cases k with
    | zero =>
      refine Eq.trans ?_ (second ((s.fired n d e1).fired n d e2).axes [] ps fun p hp => hp)
      rw [routeSteps, fireEntry_eq, fireEntry_eq]
      have events (es : List SourceEvent) (e : SourceEvent) :
          (if e2.mark = 0 then [e] else [e] ++ es) = e :: if e2.mark = 0 then [] else es := by split <;> rfl
      simp only [Work.of, events, issueOutputs, List.foldl_nil, fireWhole_afterCount e2 length]
      exact (settle_event rfl rfl).trans (congrArg (settle (some n)) (taken _ _ rfl))
    | succ m =>
      rw [routeSteps, taken_first, routeSteps_outputs _ _ ps m (by exact actions)]
      exact second _ (ps.take m) (ps.drop m) fun p hp => List.mem_of_mem_drop hp

end

end Sys2Proof.Machine

namespace Sys2Proof.Proofs

open Sys2Proof.Machine

/-- Settles O23: the action on the completion follows the DONE record, and the action on a mark is issued with the
firing or waits for the end of the count. -/
theorem waitingRouteActionsFollowTheCount : Obligations.WaitingRouteActionsFollowTheCount := by
  constructor
  · intro s n takes c raw d p i a hs hc run href hr hd hp away tags marks hready ho hl moved firing after acted x v
    have counted : exec (.countEvent n takes) s = .next (afterCompletion n (settle (some n) (issueRoute (some n)
        ⟨⟨.schedDone n, acted.timebase.count⟩, after.axes, i⟩ (Work.of v [])))) :=
      (exec_countEvent takes hs hc hr (hd.trans (AxisConfig.direct_eq _ raw).symm) hp).trans
      (congrArg Host.Outcome.next (countNotice_completes (s := after) takes run marks (State.setAxis_axis_same ..)
        (Axis.fires_eq (x := moved) href d) tags away hl hready ho))
    have route : v.route i = (s.route i).actedOnce := Vector.getElem_set_self _
    have action : (v.route i).action = some a := by rw [route]; exact hready.action
    have sched : v.sched n = x := by simp [v, State.sched]
    have axis : v.axis n = moved :=
      ((foldl_fired_outputsOnly n d firing after).axis n).trans (State.setAxis_axis_same ..)
    have waits (act : SchedAct) (h : ∀ e ∈ (takeSchedAct n act v).2, NoRouteOn (takeSchedAct n act v).1 e.source)
        (hi : issueRoute (some n) ⟨⟨.schedDone n, acted.timebase.count⟩, after.axes, i⟩ (Work.of v []) =
          reachSchedule (some n) ⟨.schedDone n, acted.timebase.count⟩ n act (Work.of v [])) :
        exec (.countEvent n takes) s = .next (takeSchedAct n act v).1 := by
      refine counted.trans (congrArg Host.Outcome.next ?_)
      refine (congrArg (fun w => afterCompletion n (settle (some n) w)) (hi.trans (reachSchedule_done _ _))).trans ?_
      rw [settle_idle rfl rfl, afterCompletion_after act h]
    refine ⟨?_, ?_, ?_, ?_, ?_⟩
    · rintro (rfl | rfl)
      · have unmoved : takeSchedAct n .start v = (v, []) := by
          rw [takeSchedAct, startSchedule_eq, sched, if_neg fun h => h.2.1 rfl]
        have taken := waits .start (by rw [unmoved]; exact fun e he => absurd he List.not_mem_nil)
          (issueRoute_start action)
        rw [taken, unmoved]
      · have unmoved : takeSchedAct n .stop v = (v, []) := by
          have same : v.setSched n x = v := by
            rw [← sched]
            exact State.setSched_self v n
          rw [takeSchedAct, stopSchedule, sched]
          exact congrArg (·, []) same
        have taken := waits .stop (by rw [unmoved]; exact fun e he => absurd he List.not_mem_nil)
          (issueRoute_stop action)
        rw [taken, unmoved]
    · rintro rfl hn
      have unmoved : takeSchedAct n .commit v = (v, []) :=
        routeCommit_waits (by rw [sched]; exact hn)
      have taken := waits .commit (by rw [unmoved]; exact fun e he => absurd he List.not_mem_nil)
        (issueRoute_commit action)
      rw [taken, unmoved]
    · rintro r rfl hcom new
      have commits : takeSchedAct n .commit v = takeCommit n r v := routeCommit_takes (by rw [sched]; exact hcom)
      have installs := takeCommit_stopped (s := v) (n := n) r (by rw [sched]) (by rw [axis]; exact href)
      have taken := waits .commit (by rw [commits, installs]; exact fun e he => absurd he List.not_mem_nil)
        (issueRoute_commit action)
      have enables : v.queue.enables = s.queue.enables :=
        (RecordQueue.offer_enables _ _ _).trans (foldl_fired_outputsOnly n d firing after).enables
      have scheds (y : Schedule) : v.scheds.set n y = s.scheds.set n y := Vector.set_set ..
      rw [taken, commits, installs, sched, axis]
      simp only [enables, scheds]
      rfl
    · rintro set rfl
      refine counted.trans (congrArg Host.Outcome.next ?_)
      refine (congrArg (fun w => afterCompletion n (settle (some n) w)) (issueRoute_capture action)).trans ?_
      have divider : (v.route i).divider = (s.route i).divider := by rw [route]; rfl
      rw [settle_idle rfl rfl]
      exact congrArg (fun k => ({ v with queue := v.queue.receive ⟨.capture (some i) .schedDone k, acted.timebase.count,
        posWords after.axes set⟩ } : State)) divider
    · rintro l act rfl
      refine counted.trans (congrArg Host.Outcome.next ?_)
      refine (congrArg (fun w => afterCompletion n (settle (some n) w)) (issueRoute_output action)).trans ?_
      rw [settle_idle rfl rfl]
      rfl
  · intro s n takes c raw d p e i a hs hc run href hr hd hp away tags one marked hready ho done moved after acted x left hl v
    have outputs : OutputsOnly after acted := State.fired_outputsOnly n d after e
    have fires : moved.fires d = Entry.firesAt p d := Axis.fires_eq (x := moved) href d
    have time : acted.timebase = after.timebase := by
      obtain ⟨_, _, -, he⟩ := outputs
      rw [he]
    have fired := fireAll_marked (s := after) (d := d) takes tags one marked hready ho
    have counted (onMark : List SchedAct) (t : State) (ht : OutputsOnly after t)
        (hi : settle (some n) (issueRoute (some n) ⟨⟨.mark n e.mark, after.timebase.count⟩, after.axes, i⟩
            (Work.of (after.afterCount n (listAfter (Entry.firesAt p d) x.active) 1
              (after.routes.set i (after.route i).actedOnce) acted) [])) =
          ⟨after.afterCount n (listAfter (Entry.firesAt p d) x.active) 1 v.routes t, [], [], onMark, []⟩) :
        exec (.countEvent n takes) s =
          .next (afterCompletion n ⟨after.afterCount n left 1 v.routes t, [], [], onMark, []⟩) := by
      refine (exec_countEvent takes hs hc hr (hd.trans (AxisConfig.direct_eq _ raw).symm) hp).trans
        (congrArg Host.Outcome.next ?_)
      refine countNotice_ends (s := after) run (State.setAxis_axis_same ..) fires away ht hl ?_
      exact (congrArg (fun es => fireAll n d es takes (Work.of after [])) one).trans (fired.trans hi)
    have action : ((after.afterCount n (listAfter (Entry.firesAt p d) x.active) 1
        (after.routes.set i (after.route i).actedOnce) acted).route i) = (s.route i).actedOnce := Vector.getElem_set_self _
    have sched : v.sched n = { x with total := x.total + 1#32, active := left } := by simp [v, State.sched]
    have unheard (act : SchedAct) : NoRouteOn (takeSchedAct n act v).1 (.schedDone n) :=
      (done.acted i).of_routes (takeSchedAct_routes n act v)
    have waits (act : SchedAct) (h : ∀ e ∈ (takeSchedAct n act v).2, e.source = .schedDone n)
        (hi : issueRoute (some n) ⟨⟨.mark n e.mark, after.timebase.count⟩, after.axes, i⟩
            (Work.of (after.afterCount n (listAfter (Entry.firesAt p d) x.active) 1
              (after.routes.set i (after.route i).actedOnce) acted) []) =
          reachSchedule (some n) ⟨.mark n e.mark, after.timebase.count⟩ n act
            (Work.of (after.afterCount n (listAfter (Entry.firesAt p d) x.active) 1
              (after.routes.set i (after.route i).actedOnce) acted) [])) :
        exec (.countEvent n takes) s = .next (takeSchedAct n act v).1 := by
      rw [counted [act] acted outputs
        ((congrArg (settle (some n)) (hi.trans (reachSchedule_mark _ _ act))).trans (settle_idle rfl rfl))]
      exact congrArg Host.Outcome.next (afterCompletion_mark (s := v) act fun e he => by rw [h e he]; exact unheard act)
    have slots : left.length ≤ x.active.length := by
      rw [length_listRearmed, ← listFired_firing _ tags]
      exact length_listFired_le _ _
    have free : v.free + left.length = s.free + x.active.length := by
      have held : v.free = s.free + (x.active.length - left.length) := rfl
      omega
    have axis : v.axis n = moved := (outputs.axis n).trans (State.setAxis_axis_same ..)
    have enables : v.queue.enables = s.queue.enables := outputs.enables
    have scheds (y : Schedule) : v.scheds.set n y = s.scheds.set n y := Vector.set_set ..
    refine ⟨?_, ?_, ?_, ?_, ?_, ?_⟩
    · rintro rfl
      have unmoved : takeSchedAct n .start v = (v, []) := by
        rw [takeSchedAct, startSchedule_eq, sched, if_neg fun h => h.1 run]
      have taken := waits .start (by rw [unmoved]; exact fun e he => absurd he List.not_mem_nil)
        (issueRoute_start (by exact (congrArg Route.action action).trans hready.action))
      rw [taken, unmoved]
    · rintro rfl
      have taken := waits .stop (fun e he => absurd he List.not_mem_nil)
        (issueRoute_stop (by exact (congrArg Route.action action).trans hready.action))
      rw [taken, takeSchedAct, stopSchedule, sched, State.setSched, scheds]
    · rintro r rfl hcom new committed
      have commits : takeSchedAct n .commit v = takeCommit n r v := routeCommit_takes (by rw [sched]; exact hcom)
      have installs := takeCommit_running (s := v) (n := n) r (by rw [sched]; exact run)
      have completes : ∀ e ∈ (takeCommit n r v).2, e.source = .schedDone n := by
        rw [installs]
        intro e he
        simp only at he
        split at he
        · rw [List.mem_singleton.mp he]
        · cases he
      have taken := waits .commit (by rw [commits]; exact completes)
        (issueRoute_commit (by exact (congrArg Route.action action).trans hready.action))
      rw [taken, commits, installs]
      simp only [sched, axis, enables, scheds, free]
      rfl
    · rintro rfl hn
      have unmoved : takeSchedAct n .commit v = (v, []) := routeCommit_waits (by rw [sched]; exact hn)
      have taken := waits .commit (by rw [unmoved]; exact fun e he => absurd he List.not_mem_nil)
        (issueRoute_commit (by exact (congrArg Route.action action).trans hready.action))
      rw [taken, unmoved]
    · rintro set rfl
      have recorded (item : Item) : OutputsOnly after (acted.produce item) :=
        outputs.trans ⟨_, _, RecordQueue.receive_enables _ _, rfl⟩
      rw [counted [] _ (recorded ⟨.capture (some i) .mark (s.route i).divider, after.timebase.count,
        posWords after.axes set⟩) ?_]
      · rw [← time]
        rfl
      · rw [issueRoute_capture (by exact (congrArg Route.action action).trans hready.action), settle_idle rfl rfl]
        simp only [Work.of, action]
        rfl
    · rintro l act rfl
      rw [counted [] (issueAction l act acted) (outputs.trans (issueAction_outputsOnly l act acted)) ?_]
      · exact congrArg Host.Outcome.next (issueAction_overlay (s := acted) l act).symm
      · rw [issueRoute_output (by exact (congrArg Route.action action).trans hready.action), settle_idle rfl rfl]
        simp only [Work.of, State.afterCount, issueAction_overlay]
        rfl

/-- Settles O22: `takes` says how many of the two actions are issued before the second firing, and the firings and
actions of the lines see nothing of the schedule. -/
theorem markActionsComeBeforeOrAfterALaterFiring : Obligations.MarkActionsComeBeforeOrAfterALaterFiring := by
  intro s n takes c raw d p e1 e2 i j li lj ai aj hs hc run href hr hd hp away tags two marked hq hij hi hj ho moved left hl
    early routed order acted
  refine (exec_countEvent takes hs hc hr (hd.trans (AxisConfig.direct_eq _ raw).symm) hp).trans
    (congrArg Host.Outcome.next ?_)
  have fired := fireAll_two (s := (s.takePair n c).setAxis n moved) (d := d) takes tags two marked hq hij hi hj ho
    (early := early) rfl rfl
  have outputs : acted = issueOutputs ([(i, li, ai), (j, lj, aj)].drop early) (State.fired n d
      (issueOutputs ([(i, li, ai), (j, lj, aj)].take early) (((s.takePair n c).setAxis n moved).fired n d e1)) e2) := by
    have routes : routed = [(i, li, ai), (j, lj, aj)].map fun p : RouteOutput => issueAction p.2.1 p.2.2 := rfl
    simp only [acted, order, routes, ← List.map_take, ← List.map_drop, List.foldl_append, List.foldl_map,
      List.foldl_cons, List.foldl_nil]
    rfl
  have same : OutputsOnly ((s.takePair n c).setAxis n moved) acted := by
    rw [outputs]
    exact (((State.fired_outputsOnly ..).trans (issueOutputs_outputsOnly ..)).trans
      (State.fired_outputsOnly ..)).trans (issueOutputs_outputsOnly ..)
  rw [← outputs] at fired
  exact countNotice_ends (s := (s.takePair n c).setAxis n moved) run (State.setAxis_axis_same ..)
    (Axis.fires_eq (x := moved) href d) away same hl
    ((congrArg (fun es => fireAll n d es takes (Work.of ((s.takePair n c).setAxis n moved) [])) two).trans fired)

end Sys2Proof.Proofs
end

section
/-! SUPPORT and the settling of O16. What a layout writes is what a reader reads: numbers, the fields of a compare entry,
and whole payloads. -/

namespace Sys2Proof.Machine

/-! ### Numbers -/

theorem numBE_append (bs : List Byte) (b : Byte) : numBE (bs ++ [b]) = numBE bs * 256 + b.toNat := by
  simp [numBE, List.foldl_append]

/-- A number reads back from its bytes, modulo what they can hold (R192). -/
theorem numBE_bytesBE (k v : Nat) : numBE (bytesBE k v) = v % 256 ^ k := by
  induction k generalizing v with
  | zero => simp [bytesBE, numBE, Nat.mod_one]
  | succ k ih =>
    have split := Nat.mod_mul (x := v) (a := 256) (b := 256 ^ k)
    have byte : (BitVec.ofNat 8 v).toNat = v % 256 := BitVec.toNat_ofNat v 8
    rw [bytesBE, numBE_append, ih, byte, Nat.pow_succ', split, Nat.mul_comm 256 (_ % _), Nat.add_comm]

theorem numBE_four {v : Nat} (h : v < 4294967296) : numBE (bytesBE 4 v) = v :=
  (numBE_bytesBE 4 v).trans (Nat.mod_eq_of_lt h)

theorem wordBE_wordBytes (w : Word32) : wordBE (wordBytes w) = w := by
  rw [wordBE, wordBytes, numBE_four w.isLt]
  exact BitVec.eq_of_toNat_eq (by rw [BitVec.toNat_ofNat, Nat.mod_eq_of_lt w.isLt])

theorem wordBE_intBytes {x : Int} (low : -2147483648 ≤ x) (high : x ≤ 2147483647) : (wordBE (intBytes x)).toInt = x := by
  rw [intBytes, wordBE_wordBytes, BitVec.toInt_ofInt]
  exact Int.bmod_eq_of_le (by omega) (by omega)

/-- The four bytes of a word, and what they carry. -/
theorem wordBytes_four (w : Word32) : ∃ a b c d, wordBytes w = [a, b, c, d] ∧ wordBE [a, b, c, d] = w :=
  ⟨_, _, _, _, rfl, wordBE_wordBytes w⟩

theorem intBytes_four {x : Int} (low : -2147483648 ≤ x) (high : x ≤ 2147483647) :
    ∃ a b c d, intBytes x = [a, b, c, d] ∧ (wordBE [a, b, c, d]).toInt = x :=
  ⟨_, _, _, _, rfl, wordBE_intBytes low high⟩

theorem toNat_byteOf {v : Nat} (h : v < 256) : (byteOf v).toNat = v := by
  rw [byteOf, BitVec.toNat_ofNat, Nat.mod_eq_of_lt h]

theorem readRange_of {lo hi v : Nat} (low : lo ≤ v) (high : v ≤ hi) : readRange lo hi v = some v := if_pos ⟨low, high⟩

/-! ### The codes of Table 10-1 -/

theorem readCountMode_code (m : CountMode) : readCountMode m.code = some m := by cases m <;> rfl

theorem readAxisMode_code (m : AxisMode) : readAxisMode m.code = some m := by cases m <;> rfl

theorem readSlipPolicy_code (p : SlipPolicy) : readSlipPolicy p.code = some p := by cases p <;> rfl

theorem readReporting_code (r : IndexReporting) : readReporting r.code = some r := by cases r <;> rfl

theorem readHomingSource_code (x : HomingSource) : readHomingSource x.code = some x := by cases x <;> rfl

theorem readQualifier_code (q : DirQualifier) : readQualifier q.code = some q := by cases q <;> rfl

/-! ### A compare entry (R29, R197) -/

section
variable {e : Entry}

/-- The number that the flags byte carries (Table 10-5). -/
theorem Entry.toNat_flags (e : Entry) : e.flags.toNat = e.dir.code +
    (if e.retire = .repeated then 4 else 0) + (if e.record then 8 else 0) + e.mark.val * 16 := by
  have dir : e.dir.code ≤ 3 := by cases e.dir <;> decide
  have record : (if e.record then 8 else 0) ≤ 8 := by cases e.record <;> decide
  have mark := e.mark.isLt
  have written : e.flags = byteOf (e.dir.code + (if e.retire = .repeated then 4 else 0) + (if e.record then 8 else 0) +
      e.mark.val * 16) := by
    unfold Entry.flags
    cases e.retire <;> rfl
  rw [written]
  exact toNat_byteOf (by split <;> omega)

theorem Entry.flags_dir (e : Entry) : readEntryDir (e.flags.toNat % 4) = some e.dir := by
  have code : e.flags.toNat % 4 = e.dir.code := by
    have dir : e.dir.code ≤ 3 := by cases e.dir <;> decide
    rw [e.toNat_flags]
    cases e.retire <;> cases e.record <;> simp <;> omega
  rw [code]
  cases e.dir <;> rfl

theorem Entry.flags_retire (e : Entry) : e.flags.getLsbD 2 = decide (e.retire = .repeated) := by
  have dir : e.dir.code ≤ 3 := by cases e.dir <;> decide
  rw [BitVec.getLsbD, Nat.testBit_eq_decide_div_mod_eq, e.toNat_flags]
  cases e.retire <;> cases e.record <;> simp <;> omega

theorem Entry.flags_record (e : Entry) : e.flags.getLsbD 3 = e.record := by
  have dir : e.dir.code ≤ 3 := by cases e.dir <;> decide
  rw [BitVec.getLsbD, Nat.testBit_eq_decide_div_mod_eq, e.toNat_flags]
  cases e.retire <;> cases e.record <;> simp <;> omega

theorem Entry.flags_mark (e : Entry) : Fin.ofNat 4 (e.flags.toNat / 16) = e.mark := by
  have dir : e.dir.code ≤ 3 := by cases e.dir <;> decide
  have mark := e.mark.isLt
  have number : e.flags.toNat / 16 = e.mark.val := by
    rw [e.toNat_flags]
    cases e.retire <;> cases e.record <;> simp <;> omega
  rw [number]
  exact Fin.ofNat_val_eq_self e.mark

end

/-- The action bytes of an entry read back (Table 10-5). -/
theorem Entry.actionBytes_read {e : Entry} (h : ∀ l act, e.action = some (l, act) → act.inRange) :
    ∃ action width count period, e.actionBytes = action :: paramBytes width count period ∧
      readEntryAction action width count period = some e.action := by
  cases ha : e.action with
  | none => exact ⟨0#8, 0, 0, 0, by rw [Entry.actionBytes, ha]; rfl, rfl⟩
  | some p =>
    obtain ⟨l, act⟩ := p
    obtain ⟨width, count, period, params, reads⟩ := readAction_params (h l act ha)
    have code : 1 ≤ act.code ∧ act.code ≤ 5 := by
      rcases act with (_ | _) | _ | _ | _ <;> exact ⟨by simp [OutAction.code], by simp [OutAction.code]⟩
    have line := l.isLt
    have number : (byteOf (act.code + l.val * 8)).toNat = act.code + l.val * 8 := toNat_byteOf (by omega)
    have kind : (act.code + l.val * 8) % 8 = act.code := by omega
    have place : (act.code + l.val * 8) / 8 = l.val := by omega
    refine ⟨byteOf (act.code + l.val * 8), width, count, period, by rw [Entry.actionBytes, ha, ← params], ?_⟩
    rw [readEntryAction, number, kind, place, if_neg (by omega), reads]
    exact congrArg (fun l => some (some (l, act))) (Fin.ofNat_val_eq_self l)

/-- A compare entry in range reads back from its 14 bytes (R29, R197). -/
theorem readEntry_encode {a : Axis} {e : Entry} (h : e.inRange a) :
    e.encode.length = 14 ∧ readEntry a e.encode = some e := by
  obtain ⟨tagLow, tagHigh, low, high, held, hact, disarmed, unfired⟩ := h
  obtain ⟨action, w, c, p, actionBytes, actionReads⟩ := Entry.actionBytes_read hact
  obtain ⟨p0, p1, p2, p3, position, positionReads⟩ := intBytes_four low high
  have layout : e.encode = [byteOf (e.tag / 256), byteOf e.tag, p0, p1, p2, p3, e.flags, action] ++ paramBytes w c p := by
    simp only [Entry.encode, actionBytes, position, bytesBE_two, List.cons_append, List.nil_append]
  have tag : numBE [byteOf (e.tag / 256), byteOf e.tag] = e.tag := numBE_byteOf_pair (by omega)
  have retire : (if e.flags.getLsbD 2 then Retire.repeated else .once) = e.retire := by
    rw [e.flags_retire]
    cases e.retire <;> rfl
  have admitted : ¬(e.tag = 0 ∨ a.inRange e.position = false) := by
    rintro (zero | out)
    · omega
    · rw [held] at out
      cases out
  rw [layout]
  refine ⟨rfl, ?_⟩
  simp only [paramBytes, bytesBE_two, List.cons_append, List.nil_append, readEntry, tag, positionReads, if_neg admitted,
    e.flags_dir, numBE_byteOf_pair (Fin.isLt _), actionReads, retire, e.flags_record, e.flags_mark]
  obtain ⟨_, _, _, _, _, _, _, _, _⟩ := e
  subst disarmed unfired
  rfl

/-! ### Whole payloads -/

/-- The AXIS_CONFIG request carries the axis, its configuration and its mode (Table 10-7). -/
theorem readAxisConfig_bytes (s : State) (n : AxisId) {c : AxisConfig} (m : AxisMode) (h : c.inRange) :
    readAxisConfig s (axisConfigBytes n c m) = some (n, c, m) := by
  obtain ⟨filter, cprLow, cprHigh, tolerance, slipLimit, errorLimit⟩ := h
  have layout : axisConfigBytes n c m = [byteOf n.val, c.countMode.code, flagByte c.invert, byteOf c.filter, m.code] ++
      bytesBE 4 c.cpr ++ [byteOf c.tolerance, byteOf (c.slipLimit / 256), byteOf c.slipLimit, c.slipPolicy.code,
        c.reporting.code, byteOf c.errorLimit] := by simp [axisConfigBytes, bytesBE_two]
  obtain ⟨c0, c1, c2, c3, cpr, cprReads⟩ : ∃ c0 c1 c2 c3, bytesBE 4 c.cpr = [c0, c1, c2, c3] ∧
      numBE [c0, c1, c2, c3] = c.cpr := ⟨_, _, _, _, rfl, numBE_four (by omega)⟩
  rw [layout, cpr]
  simp [readAxisConfig, readAxis_byteOf, readCountMode_code, readFlag_flagByte, readAxisMode_code, cprReads,
    readRange_of cprLow cprHigh, readSlipPolicy_code, readReporting_code, toNat_byteOf (Nat.lt_succ_of_le filter),
    toNat_byteOf (Nat.lt_succ_of_le tolerance), toNat_byteOf (Nat.lt_succ_of_le errorLimit),
    numBE_byteOf_pair (Nat.lt_succ_of_le slipLimit)]

/-- The HOME request (Table 10-7); its input byte is unused beside source INDEX. -/
theorem readHome_bytes (s : State) (n : AxisId) (k : Byte) {h : HomingParams}
    (hk : h.source ≠ .index ∧ k = byteOf h.input.val ∨ h.source = .index ∧ h.input = (s.axis n).homing.input) :
    readHome s (homeBytes n k h) = some (n, h) := by
  obtain ⟨p0, p1, p2, p3, preset, presetReads⟩ := wordBytes_four h.preset
  have input : readHomingInput h.source (s.axis n).homing.input k = some h.input := by
    rcases hk with ⟨source, rfl⟩ | ⟨source, held⟩
    · cases hs : h.source with
      | index => exact absurd hs source
      | trigger => exact readTrigger_byteOf h.input
      | triggerThenIndex => exact readTrigger_byteOf h.input
    · rw [source, held]
      rfl
  rw [homeBytes, preset]
  simp [readHome, readAxis_byteOf, readHomingSource_code, input, readQualifier_code, presetReads]

section
variable {s : State} {n : AxisId}

/-- The AXIS_SET_POSITION request (Table 10-7). -/
theorem readSetPosition_linear {x : Int} (hm : (s.axis n).position.mode = .linear) (low : -2147483648 ≤ x)
    (high : x ≤ 2147483647) : readSetPosition s (setPositionBytes n (.linear x)) = some (n, .linear x) := by
  obtain ⟨t0, t1, t2, t3, turn, -⟩ := wordBytes_four (Position.linear x).turn
  obtain ⟨v0, v1, v2, v3, value, valueReads⟩ := intBytes_four low high
  have bytes : intBytes (Position.linear x).value = [v0, v1, v2, v3] := value
  rw [setPositionBytes, turn, bytes]
  simp [readSetPosition, readAxis_byteOf, hm, valueReads]

theorem readSetPosition_rotary {turn : Word32} {angle : Nat} (hm : (s.axis n).position.mode = .rotary)
    (hc : (s.axis n).config.cpr ≤ 16777216) (ha : angle < (s.axis n).config.cpr) :
    readSetPosition s (setPositionBytes n (.rotary turn angle)) = some (n, .rotary turn angle) := by
  obtain ⟨t0, t1, t2, t3, turnBytes, turnReads⟩ := wordBytes_four turn
  obtain ⟨v0, v1, v2, v3, value, valueReads⟩ := intBytes_four (x := (angle : Int)) (by omega) (by omega)
  have inside : (s.axis n).inRange (angle : Int) = true := by
    simp only [Axis.inRange, hm]
    exact decide_eq_true ⟨by omega, by omega⟩
  have first : wordBytes (Position.rotary turn angle).turn = [t0, t1, t2, t3] := turnBytes
  have second : intBytes (Position.rotary turn angle).value = [v0, v1, v2, v3] := value
  rw [setPositionBytes, first, second]
  simp [readSetPosition, readAxis_byteOf, hm, valueReads, inside, turnReads]

/-- The COMMIT request (Table 10-7), its position unused beside AT_POSITION. -/
theorem readCommit_now (s : State) (n : AxisId) (run : Bool) :
    readCommit s (commitBytes n .now run) = some (n, .now, run) := by
  obtain ⟨p0, p1, p2, p3, unused, -⟩ := intBytes_four (x := 0) (by decide) (by decide)
  rw [commitBytes, unused]
  simp [readCommit, readAxis_byteOf, readFlag_flagByte]

theorem readCommit_atTrigger (s : State) (n : AxisId) (run : Bool) :
    readCommit s (commitBytes n .atTrigger run) = some (n, .atTrigger, run) := by
  obtain ⟨p0, p1, p2, p3, unused, -⟩ := intBytes_four (x := 0) (by decide) (by decide)
  rw [commitBytes, unused]
  simp [readCommit, readAxis_byteOf, readFlag_flagByte]

theorem readCommit_atPosition {p : Int} (run : Bool) (low : -2147483648 ≤ p) (high : p ≤ 2147483647)
    (hp : (s.axis n).inRange p = true) :
    readCommit s (commitBytes n (.atPosition p) run) = some (n, .atPosition p, run) := by
  obtain ⟨p0, p1, p2, p3, position, reads⟩ := intBytes_four low high
  simp only [commitBytes, position]
  simp [readCommit, readAxis_byteOf, readFlag_flagByte, reads, hp]

/-- Entries one after another read back (R34, R197). -/
theorem readEntries_encode {a : Axis} {es : List Entry} (h : ∀ e ∈ es, e.inRange a) :
    readEntries a es.length (es.map Entry.encode).flatten = some es := by
  induction es with
  | nil => rfl
  | cons e es ih =>
    obtain ⟨first, others⟩ := List.forall_mem_cons.mp h
    obtain ⟨length, reads⟩ := readEntry_encode first
    have taken : (e.encode ++ (es.map Entry.encode).flatten).take 14 = e.encode := List.take_left' length
    have dropped : (e.encode ++ (es.map Entry.encode).flatten).drop 14 = (es.map Entry.encode).flatten :=
      List.drop_left' length
    rw [List.map_cons, List.flatten_cons, List.length_cons, readEntries, taken, dropped, reads, ih others]
    rfl

/-- The STAGE_ADD request (Table 10-7). -/
theorem readStageAdd_bytes {es : List Entry} (some_entry : 1 ≤ es.length) (few : es.length ≤ 16)
    (h : ∀ e ∈ es, e.inRange (s.axis n)) : readStageAdd s (stageAddBytes n es) = some (n, es) := by
  have count : (byteOf es.length).toNat = es.length := toNat_byteOf (by omega)
  simp [stageAddBytes, readStageAdd, readAxis_byteOf, count, readRange_of some_entry few, readEntries_encode h]

/-- The OUTPUT_ACTION request (Table 10-8). -/
theorem readOutputAction_bytes (s : State) (l : LineId) {act : OutAction} (h : act.inRange) :
    readOutputAction s ([byteOf l.val, byteOf act.code] ++ act.params) = some (l, act) := by
  obtain ⟨width, count, period, params, reads⟩ := readAction_params h
  rw [params]
  simp [readOutputAction, paramBytes, bytesBE_two, readLine_byteOf, act.toNat_byteOf_code,
    numBE_byteOf_pair (Fin.isLt _), reads]

end

end Sys2Proof.Machine

namespace Sys2Proof.Proofs

open Sys2Proof.Machine

/-- Settles O16: every field reads back from its bytes, and so does every payload. -/
theorem entriesAndParametersReadBack : Obligations.EntriesAndParametersReadBack :=
  ⟨fun _ _ => readEntry_encode, fun s =>
    ⟨fun n _ m => readAxisConfig_bytes s n m, fun n k _ => readHome_bytes s n k,
      fun _ _ => readSetPosition_linear, fun _ _ _ => readSetPosition_rotary,
      fun n run => ⟨readCommit_now s n run, readCommit_atTrigger s n run⟩,
      fun _ _ run => readCommit_atPosition run, fun _ _ => readStageAdd_bytes,
      fun i _ h => (readRouteSet_bytes s i h).2, fun l _ => readOutputAction_bytes s l⟩⟩

end Sys2Proof.Proofs
end

section
/-! SUPPORT and the settling of O46. What a reader that succeeds says about its bytes: each field lies in its range. A
payload with a field out of range is read by none, and its request is refused. -/

namespace Sys2Proof.Machine

/-! ### Fields in range (Table 10-1, R203) -/

section
variable {b : Byte}

theorem readFlag_range {f : Bool} (h : readFlag b = some f) : b.toNat < 2 := by
  unfold readFlag at h
  split at h
  · rename_i zero
    rw [zero]
    decide
  · split at h
    · rename_i one
      rw [one]
      decide
    · cases h

theorem readAxis_range {n : AxisId} (h : readAxis b = some n) : n.val = b.toNat ∧ b.toNat < 4 := by
  unfold readAxis at h
  split at h
  · injection h with h
    exact ⟨by rw [← h], ‹_›⟩
  · cases h

theorem readLine_range {l : LineId} (h : readLine b = some l) : b.toNat < 8 := by
  unfold readLine at h
  split at h
  · rename_i small
    exact small
  · cases h

theorem readTrigger_range {k : TriggerId} (h : readTrigger b = some k) : b.toNat < 6 := by
  unfold readTrigger at h
  split at h
  · rename_i small
    exact small
  · cases h

theorem readRoute_range {i : RouteId} (h : readRoute b = some i) : b.toNat < 16 := by
  unfold readRoute at h
  split at h
  · rename_i small
    exact small
  · cases h

theorem readRange_range {lo hi k v : Nat} (h : readRange lo hi k = some v) : v = k ∧ lo ≤ k ∧ k ≤ hi := by
  unfold readRange at h
  split at h
  · injection h with h
    exact ⟨h.symm, ‹_›⟩
  · cases h

theorem readAxisSet_range {set : AxisSet} (h : readAxisSet b = some set) : 1 ≤ b.toNat ∧ b.toNat ≤ 15 := by
  unfold readAxisSet at h
  split at h
  · cases h
  · omega

theorem readLevel_range {x : Level} (h : readLevel b = some x) : b.toNat < 2 := by
  obtain ⟨f, hf, -⟩ := Option.map_eq_some_iff.mp h
  exact readFlag_range hf

theorem readAxisMode_range {x : AxisMode} (h : readAxisMode b = some x) : b.toNat < 2 := by
  obtain ⟨f, hf, -⟩ := Option.map_eq_some_iff.mp h
  exact readFlag_range hf

theorem readSlipPolicy_range {x : SlipPolicy} (h : readSlipPolicy b = some x) : b.toNat < 2 := by
  obtain ⟨f, hf, -⟩ := Option.map_eq_some_iff.mp h
  exact readFlag_range hf

theorem readMode_range {x : DeliveryMode} (h : readMode b = some x) : b.toNat < 2 := by
  obtain ⟨f, hf, -⟩ := Option.map_eq_some_iff.mp h
  exact readFlag_range hf

theorem readCountMode_range {x : CountMode} (h : readCountMode b = some x) : b.toNat < 4 := by
  unfold readCountMode at h
  split at h <;> simp_all

theorem readReporting_range {x : IndexReporting} (h : readReporting b = some x) : b.toNat < 3 := by
  unfold readReporting at h
  split at h <;> simp_all

theorem readHomingSource_range {x : HomingSource} (h : readHomingSource b = some x) :
    b.toNat < 3 ∧ (x = .index → b.toNat = 0) := by
  unfold readHomingSource at h
  split at h
  · rename_i zero
    exact ⟨by omega, fun _ => zero⟩
  · cases h
    exact ⟨by omega, fun index => nomatch index⟩
  · cases h
    exact ⟨by omega, fun index => nomatch index⟩
  · cases h

theorem readQualifier_range {x : DirQualifier} (h : readQualifier b = some x) : b.toNat < 3 := by
  unfold readQualifier at h
  split at h <;> simp_all

theorem readPolicy_range {x : Policy} (h : readPolicy b = some x) : b.toNat < 3 := by
  unfold readPolicy at h
  split at h <;> simp_all

theorem readSelection_range {x : EdgeSelection} (h : readSelection b = some x) : b.toNat < 4 := by
  unfold readSelection at h
  split at h <;> simp_all

theorem readRouteEdge_range {x : RouteEdge} (h : readRouteEdge b = some x) : 1 ≤ b.toNat ∧ b.toNat ≤ 3 := by
  unfold readRouteEdge at h
  split at h <;> simp_all

theorem readEdge_range {x : Edge} (h : readEdge b = some x) : 1 ≤ b.toNat ∧ b.toNat ≤ 2 := by
  unfold readEdge at h
  split at h <;> simp_all

theorem readLoss_range {x : LossAction} (h : readLoss b = some x) : b.toNat < 3 := by
  unfold readLoss at h
  split at h <;> simp_all

theorem readBaud_range {x : Baud} (h : readBaud b = some x) : b.toNat < 6 := by
  unfold readBaud at h
  split at h <;> simp_all

theorem readEntryDir_range {k : Nat} {x : EntryDir} (h : readEntryDir k = some x) : k ≠ 0 := by
  unfold readEntryDir at h
  split at h <;> simp_all

theorem readHomingInput_range {source : HomingSource} {held k : TriggerId}
    (h : readHomingInput source held b = some k) : source = .index ∨ b.toNat < 6 := by
  unfold readHomingInput at h
  split at h
  · exact .inl rfl
  · exact .inr (readTrigger_range h)
  · exact .inr (readTrigger_range h)

/-- The parameters of a PULSE or a TRAIN are out of range (R29, R89). -/
def Misfit (kind w count period : Nat) : Prop :=
  kind = 1 ∧ w = 0 ∨ kind = 5 ∧ (w = 0 ∨ count < 2 ∨ period < 2 ∨ period ≤ w)

theorem readAction_range {kind w count period : Nat} {act : OutAction} (h : readAction kind w count period = some act) :
    1 ≤ kind ∧ kind ≤ 5 ∧ ¬Misfit kind w count period := by
  unfold readAction at h
  unfold Misfit
  split at h
  · split at h
    · cases h
    · omega
  · omega
  · omega
  · omega
  · split at h
    · cases h
    · omega
  · cases h

/-- A word lies outside the revolution of a ROTARY axis (R29, R64). -/
def Outside (s : State) (n : Byte) (v : Int) : Prop :=
  ∃ m : AxisId, m.val = n.toNat ∧ (s.axis m).position.mode = .rotary ∧ (v < 0 ∨ ((s.axis m).config.cpr : Int) ≤ v)

theorem Axis.inRange_rotary {a : Axis} {v : Int} (hm : a.position.mode = .rotary) (h : v < 0 ∨ (a.config.cpr : Int) ≤ v) :
    a.inRange v = false := by
  simp only [Axis.inRange, hm]
  exact decide_eq_false (by omega)

theorem not_outside {s : State} {n : Byte} {m : AxisId} {v : Int} (hm : m.val = n.toNat)
    (h : (s.axis m).inRange v = true) : ¬Outside s n v := by
  rintro ⟨k, hk, rotary, out⟩
  have same : k = m := Fin.ext (hk.trans hm.symm)
  subst same
  rw [Axis.inRange_rotary rotary out] at h
  cases h

theorem wordBE_append (b0 b1 b2 b3 : Byte) : wordBE [b0, b1, b2, b3] = b0 ++ b1 ++ b2 ++ b3 := by
  refine BitVec.eq_of_toNat_eq ?_
  simp only [wordBE, BitVec.toNat_ofNat, toNat_append_eq, numBE, List.foldl_cons, List.foldl_nil]
  omega

theorem numBE_quad (b0 b1 b2 b3 : Byte) :
    numBE [b0, b1, b2, b3] = ((b0.toNat * 256 + b1.toNat) * 256 + b2.toNat) * 256 + b3.toNat := by
  simp [numBE]

end

/-! ### Entries and parts of routes -/

/-- An entry that reads lies in its ranges (R29). -/
theorem readEntry_range {a : Axis} {t0 t1 p0 p1 p2 p3 flags action w0 w1 c0 c1 d0 d1 : Byte} {e : Entry}
    (h : readEntry a [t0, t1, p0, p1, p2, p3, flags, action, w0, w1, c0, c1, d0, d1] = some e) :
    t0.toNat * 256 + t1.toNat ≠ 0 ∧ a.inRange (p0 ++ p1 ++ p2 ++ p3).toInt = true ∧ flags.toNat % 4 ≠ 0 ∧
      action.toNat % 8 < 6 ∧ ¬Misfit (action.toNat % 8) (w0.toNat * 256 + w1.toNat) (c0.toNat * 256 + c1.toNat)
        (d0.toNat * 256 + d1.toNat) := by
  simp only [readEntry, numBE_pair, wordBE_append] at h
  split at h
  · cases h
  · rename_i admitted
    simp only [Option.bind_eq_bind, Option.bind_eq_some_iff] at h
    obtain ⟨dir, hdir, act, hact, -⟩ := h
    have kind : action.toNat % 8 < 6 ∧ ¬Misfit (action.toNat % 8) (w0.toNat * 256 + w1.toNat)
        (c0.toNat * 256 + c1.toNat) (d0.toNat * 256 + d1.toNat) := by
      unfold readEntryAction at hact
      split at hact
      · unfold Misfit
        omega
      · obtain ⟨x, hx, -⟩ := Option.map_eq_some_iff.mp hact
        obtain ⟨-, high, fits⟩ := readAction_range hx
        exact ⟨by omega, fits⟩
    push Not at admitted
    exact ⟨admitted.1, by simpa using admitted.2, readEntryDir_range hdir, kind⟩

/-- Every entry of a batch that reads is one that reads (R34). -/
theorem readEntries_each {a : Axis} {k : Nat} {bs front entry back : List Byte} {es : List Entry}
    (h : readEntries a k bs = some es) (hb : bs = front ++ entry ++ back) (hl : bs.length = 14 * k)
    (he : entry.length = 14) (hf : 14 ∣ front.length) : ∃ e, readEntry a entry = some e := by
  induction k generalizing bs front es with
  | zero =>
    rw [hb, List.length_append, List.length_append] at hl
    omega
  | succ k ih =>
    simp only [readEntries, Option.bind_eq_bind, Option.bind_eq_some_iff] at h
    obtain ⟨e, first, rest, others, -⟩ := h
    obtain ⟨j, hj⟩ := hf
    cases j with
    | zero =>
      have empty : front = [] := List.length_eq_zero_iff.mp hj
      rw [hb, empty, List.nil_append, List.take_left' he] at first
      exact ⟨e, first⟩
    | succ j =>
      have long : 14 ≤ front.length := by omega
      refine ih others (front := front.drop 14) ?_ ?_ ⟨j, ?_⟩
      · rw [hb, List.append_assoc, List.drop_append_of_le_length long, List.append_assoc]
      · rw [List.length_drop]
        omega
      · rw [List.length_drop]
        omega

/-- A source that reads has its parts in range (Table 5-3). -/
theorem readSource_range {s0 s1 s2 : Byte} {src : RouteSource} (h : readSource s0 s1 s2 = some src) :
    ¬(s0.toNat = 0 ∨ 5 < s0.toNat ∨ (s0.toNat = 1 ∧ (6 ≤ s1.toNat ∨ s2.toNat = 0 ∨ 3 < s2.toNat)) ∨
      (2 ≤ s0.toNat ∧ 4 ≤ s1.toNat) ∨ (s0.toNat = 3 ∧ (s2.toNat = 0 ∨ 3 < s2.toNat))) := by
  unfold readSource at h
  split at h
  · simp only [Option.bind_eq_bind, Option.bind_eq_some_iff] at h
    obtain ⟨k, hk, edge, he, -⟩ := h
    have := readTrigger_range hk
    have := readRouteEdge_range he
    omega
  · obtain ⟨n, hn, -⟩ := Option.map_eq_some_iff.mp h
    have := readAxis_range hn
    omega
  · simp only [Option.bind_eq_bind, Option.bind_eq_some_iff] at h
    obtain ⟨n, hn, m, hm, -⟩ := h
    have := readAxis_range hn
    have := readRange_range hm
    omega
  · obtain ⟨n, hn, -⟩ := Option.map_eq_some_iff.mp h
    have := readAxis_range hn
    omega
  · obtain ⟨n, hn, -⟩ := Option.map_eq_some_iff.mp h
    have := readAxis_range hn
    omega
  · cases h

/-- An action of a route that reads has its parts in range (Table 5-4). -/
theorem readRouteAction_range {a0 a1 a2 : Byte} {w count period : Nat} {a : RouteAction}
    (h : readRouteAction a0 a1 a2 w count period = some a) :
    ¬(a0.toNat = 0 ∨ 5 < a0.toNat ∨ (a0.toNat = 1 ∧ (a1.toNat = 0 ∨ 15 < a1.toNat)) ∨
      (2 ≤ a0.toNat ∧ a0.toNat ≤ 4 ∧ 4 ≤ a1.toNat) ∨
      (a0.toNat = 5 ∧ (8 ≤ a1.toNat ∨ a2.toNat = 0 ∨ 5 < a2.toNat ∨ Misfit a2.toNat w count period))) := by
  unfold readRouteAction at h
  split at h
  · obtain ⟨set, hset, -⟩ := Option.map_eq_some_iff.mp h
    have := readAxisSet_range hset
    omega
  · obtain ⟨n, hn, -⟩ := Option.map_eq_some_iff.mp h
    have := readAxis_range hn
    omega
  · obtain ⟨n, hn, -⟩ := Option.map_eq_some_iff.mp h
    have := readAxis_range hn
    omega
  · obtain ⟨n, hn, -⟩ := Option.map_eq_some_iff.mp h
    have := readAxis_range hn
    omega
  · simp only [Option.bind_eq_bind, Option.bind_eq_some_iff] at h
    obtain ⟨l, hl, act, hact, -⟩ := h
    have line := readLine_range hl
    obtain ⟨low, high, fits⟩ := readAction_range hact
    rintro (h | h | h | h | ⟨-, h | h | h | misfit⟩)
    any_goals omega
    exact fits misfit
  · cases h

/-! ### Whole payloads -/

section
variable {s : State}

theorem readAttach_range {k0 k1 loss : Byte} {p : Session} (h : readAttach s [k0, k1, loss] = some p) :
    ¬(3 ≤ loss.toNat ∨ (k0.toNat * 256 + k1.toNat ≠ 0 ∧ k0.toNat * 256 + k1.toNat < 10) ∨
      60000 < k0.toNat * 256 + k1.toNat) := by
  simp only [readAttach, numBE_pair, Option.bind_eq_bind, Option.bind_eq_some_iff] at h
  obtain ⟨action, hloss, h⟩ := h
  have := readLoss_range hloss
  split at h
  · omega
  · cases h

theorem readAxisConfig_range {n m i f a c0 c1 c2 c3 tol s0 s1 pol rep lim : Byte} {p : AxisId × AxisConfig × AxisMode}
    (h : readAxisConfig s [n, m, i, f, a, c0, c1, c2, c3, tol, s0, s1, pol, rep, lim] = some p) :
    ¬(4 ≤ n.toNat ∨ 4 ≤ m.toNat ∨ 2 ≤ i.toNat ∨ 2 ≤ a.toNat ∨
      ((c0.toNat * 256 + c1.toNat) * 256 + c2.toNat) * 256 + c3.toNat < 4 ∨
      16777216 < ((c0.toNat * 256 + c1.toNat) * 256 + c2.toNat) * 256 + c3.toNat ∨ 2 ≤ pol.toNat ∨ 3 ≤ rep.toNat) := by
  simp only [readAxisConfig, numBE_quad, Option.bind_eq_bind, Option.bind_eq_some_iff] at h
  obtain ⟨_, hn, _, hm, _, hi, _, ha, _, hcpr, _, hpol, _, hrep, -⟩ := h
  have := readAxis_range hn
  have := readCountMode_range hm
  have := readFlag_range hi
  have := readAxisMode_range ha
  have := readRange_range hcpr
  have := readSlipPolicy_range hpol
  have := readReporting_range hrep
  omega

theorem readSetPosition_range {n t0 t1 t2 t3 v0 v1 v2 v3 : Byte} {p : AxisId × Position}
    (h : readSetPosition s [n, t0, t1, t2, t3, v0, v1, v2, v3] = some p) :
    ¬(4 ≤ n.toNat ∨ Outside s n (v0 ++ v1 ++ v2 ++ v3).toInt) := by
  simp only [readSetPosition, wordBE_append, Option.bind_eq_bind, Option.bind_eq_some_iff] at h
  obtain ⟨m, hm, h⟩ := h
  obtain ⟨same, small⟩ := readAxis_range hm
  rintro (large | out)
  · omega
  · split at h
    · rename_i linear
      obtain ⟨k, hk, rotary, -⟩ := out
      rw [Fin.ext (hk.trans same.symm), linear] at rotary
      cases rotary
    · split at h
      · rename_i inside
        exact not_outside same inside out
      · cases h

theorem readHome_range {n src k q p0 p1 p2 p3 : Byte} {p : AxisId × HomingParams}
    (h : readHome s [n, src, k, q, p0, p1, p2, p3] = some p) :
    ¬(4 ≤ n.toNat ∨ 3 ≤ src.toNat ∨ (src.toNat ≠ 0 ∧ 6 ≤ k.toNat) ∨ 3 ≤ q.toNat) := by
  simp only [readHome, Option.bind_eq_bind, Option.bind_eq_some_iff] at h
  obtain ⟨_, hn, source, hsrc, _, hk, _, hq, -⟩ := h
  have := readAxis_range hn
  obtain ⟨low, index⟩ := readHomingSource_range hsrc
  have := readQualifier_range hq
  rcases readHomingInput_range hk with unused | small
  · have := index unused
    omega
  · omega

theorem readStageAdd_range {n c : Byte} {es : List Byte} {p : AxisId × List Entry}
    (h : readStageAdd s (n :: c :: es) = some p) (hl : es.length = 14 * c.toNat) :
    ¬(4 ≤ n.toNat ∨ c.toNat = 0 ∨ 16 < c.toNat ∨
      (∃ front back t0 t1 p0 p1 p2 p3 flags action w0 w1 c0 c1 d0 d1,
        es = front ++ [t0, t1, p0, p1, p2, p3, flags, action, w0, w1, c0, c1, d0, d1] ++ back ∧ 14 ∣ front.length ∧
        (t0.toNat * 256 + t1.toNat = 0 ∨ Outside s n (p0 ++ p1 ++ p2 ++ p3).toInt ∨ flags.toNat % 4 = 0 ∨
          6 ≤ action.toNat % 8 ∨ Misfit (action.toNat % 8) (w0.toNat * 256 + w1.toNat) (c0.toNat * 256 + c1.toNat)
            (d0.toNat * 256 + d1.toNat)))) := by
  simp only [readStageAdd, Option.bind_eq_bind, Option.bind_eq_some_iff] at h
  obtain ⟨m, hm, count, hc, entries, he, -⟩ := h
  obtain ⟨same, small⟩ := readAxis_range hm
  obtain ⟨rfl, low, high⟩ := readRange_range hc
  rintro (large | none | many | ⟨front, back, t0, t1, p0, p1, p2, p3, flags, action, w0, w1, c0, c1, d0, d1, hes, hf, bad⟩)
  · omega
  · omega
  · omega
  · obtain ⟨e, reads⟩ := readEntries_each he hes hl rfl hf
    obtain ⟨tag, inside, dir, kind, fits⟩ := readEntry_range reads
    rcases bad with zero | out | flat | kindless | misfit
    · exact tag zero
    · exact not_outside same inside out
    · exact dir flat
    · omega
    · exact fits misfit

theorem readStageRemove_range {n t0 t1 : Byte} {p : AxisId × Nat} (h : readStageRemove s [n, t0, t1] = some p) :
    ¬(4 ≤ n.toNat ∨ t0.toNat * 256 + t1.toNat = 0) := by
  simp only [readStageRemove, numBE_pair, Option.bind_eq_bind, Option.bind_eq_some_iff] at h
  obtain ⟨_, hn, _, ht, -⟩ := h
  have := readAxis_range hn
  have := readRange_range ht
  omega

theorem readSchedConfig_range {n h0 h1 : Byte} {p : AxisId × Nat} (h : readSchedConfig s [n, h0, h1] = some p) :
    ¬(4 ≤ n.toNat ∨ h0.toNat * 256 + h1.toNat = 0) := by
  simp only [readSchedConfig, numBE_pair, Option.bind_eq_bind, Option.bind_eq_some_iff] at h
  obtain ⟨_, hn, _, ht, -⟩ := h
  have := readAxis_range hn
  have := readRange_range ht
  omega

theorem readCommit_range {n m p0 p1 p2 p3 run : Byte} {p : AxisId × CommitMode × Bool}
    (h : readCommit s [n, m, p0, p1, p2, p3, run] = some p) :
    ¬(4 ≤ n.toNat ∨ m.toNat = 0 ∨ 3 < m.toNat ∨ 2 ≤ run.toNat ∨
      (m.toNat = 3 ∧ Outside s n (p0 ++ p1 ++ p2 ++ p3).toInt)) := by
  simp only [readCommit, wordBE_append, Option.bind_eq_bind, Option.bind_eq_some_iff] at h
  obtain ⟨k, hn, flag, hrun, h⟩ := h
  obtain ⟨same, small⟩ := readAxis_range hn
  have := readFlag_range hrun
  split at h
  · omega
  · omega
  · split at h
    · rename_i inside
      rintro (large | zero | many | flag | ⟨-, out⟩)
      any_goals omega
      exact not_outside same inside out
    · cases h
  · cases h

theorem readEntryRead_range {n list t0 t1 : Byte} {p : AxisId × Bool × Nat}
    (h : readEntryRead s [n, list, t0, t1] = some p) :
    ¬(4 ≤ n.toNat ∨ 2 ≤ list.toNat ∨ t0.toNat * 256 + t1.toNat = 0) := by
  simp only [readEntryRead, numBE_pair, Option.bind_eq_bind, Option.bind_eq_some_iff] at h
  obtain ⟨_, hn, _, hl, _, ht, -⟩ := h
  have := readAxis_range hn
  have := readFlag_range hl
  have := readRange_range ht
  omega

theorem readOutputConfig_range {l idle safeLevel policy report : Byte} {p : LineId × Level × Level × Policy × Bool}
    (h : readOutputConfig s [l, idle, safeLevel, policy, report] = some p) :
    ¬(8 ≤ l.toNat ∨ 2 ≤ idle.toNat ∨ 2 ≤ safeLevel.toNat ∨ 3 ≤ policy.toNat ∨ 2 ≤ report.toNat) := by
  simp only [readOutputConfig, Option.bind_eq_bind, Option.bind_eq_some_iff] at h
  obtain ⟨_, hl, _, hi, _, hs, _, hp, _, hr, -⟩ := h
  have := readLine_range hl
  have := readLevel_range hi
  have := readLevel_range hs
  have := readPolicy_range hp
  have := readFlag_range hr
  omega

theorem readOutputAction_range {l kind w0 w1 c0 c1 p0 p1 : Byte} {p : LineId × OutAction}
    (h : readOutputAction s [l, kind, w0, w1, c0, c1, p0, p1] = some p) :
    ¬(8 ≤ l.toNat ∨ kind.toNat = 0 ∨ 5 < kind.toNat ∨ Misfit kind.toNat (w0.toNat * 256 + w1.toNat)
      (c0.toNat * 256 + c1.toNat) (p0.toNat * 256 + p1.toNat)) := by
  simp only [readOutputAction, numBE_pair, Option.bind_eq_bind, Option.bind_eq_some_iff] at h
  obtain ⟨_, hl, _, hact, -⟩ := h
  have := readLine_range hl
  obtain ⟨low, high, fits⟩ := readAction_range hact
  rintro (large | zero | kindless | misfit)
  · omega
  · omega
  · omega
  · exact fits misfit

theorem readTriggerConfig_range {k selection f h0 h1 : Byte} {p : TriggerId × EdgeSelection × Nat × Nat}
    (h : readTriggerConfig s [k, selection, f, h0, h1] = some p) : ¬(6 ≤ k.toNat ∨ 4 ≤ selection.toNat) := by
  simp only [readTriggerConfig, Option.bind_eq_bind, Option.bind_eq_some_iff] at h
  obtain ⟨_, hk, _, hs, -⟩ := h
  have := readTrigger_range hk
  have := readSelection_range hs
  omega

theorem readRouteSet_range {i enable s0 s1 s2 n0 n1 a0 a1 a2 w0 w1 c0 c1 p0 p1 : Byte} {p : RouteId × Route}
    (h : readRouteSet s [i, enable, s0, s1, s2, n0, n1, a0, a1, a2, w0, w1, c0, c1, p0, p1] = some p) :
    ¬(16 ≤ i.toNat ∨ 2 ≤ enable.toNat ∨ n0.toNat * 256 + n1.toNat = 0 ∨ 256 < n0.toNat * 256 + n1.toNat ∨
      (s0.toNat = 0 ∨ 5 < s0.toNat ∨ (s0.toNat = 1 ∧ (6 ≤ s1.toNat ∨ s2.toNat = 0 ∨ 3 < s2.toNat)) ∨
        (2 ≤ s0.toNat ∧ 4 ≤ s1.toNat) ∨ (s0.toNat = 3 ∧ (s2.toNat = 0 ∨ 3 < s2.toNat))) ∨
      (a0.toNat = 0 ∨ 5 < a0.toNat ∨ (a0.toNat = 1 ∧ (a1.toNat = 0 ∨ 15 < a1.toNat)) ∨
        (2 ≤ a0.toNat ∧ a0.toNat ≤ 4 ∧ 4 ≤ a1.toNat) ∨
        (a0.toNat = 5 ∧ (8 ≤ a1.toNat ∨ a2.toNat = 0 ∨ 5 < a2.toNat ∨ Misfit a2.toNat (w0.toNat * 256 + w1.toNat)
          (c0.toNat * 256 + c1.toNat) (p0.toNat * 256 + p1.toNat))))) := by
  simp only [readRouteSet, numBE_pair, Option.bind_eq_bind, Option.bind_eq_some_iff] at h
  obtain ⟨_, hi, _, he, _, hs, _, hn, _, ha, -⟩ := h
  have := readRoute_range hi
  have := readFlag_range he
  have := readRange_range hn
  rintro (large | flag | zero | wide | source | action)
  · omega
  · omega
  · omega
  · omega
  · exact readSource_range hs source
  · exact readRouteAction_range ha action

theorem readDeliveryConfig_range {mode w t0 t1 : Byte} {p : DeliveryMode × Nat × Nat}
    (h : readDeliveryConfig s [mode, w, t0, t1] = some p) :
    ¬(2 ≤ mode.toNat ∨ w.toNat = 0 ∨ 16 < w.toNat ∨ t0.toNat * 256 + t1.toNat < 10 ∨
      10000 < t0.toNat * 256 + t1.toNat) := by
  simp only [readDeliveryConfig, numBE_pair, Option.bind_eq_bind, Option.bind_eq_some_iff] at h
  obtain ⟨_, hm, _, hw, _, ht, -⟩ := h
  have := readMode_range hm
  have := readRange_range hw
  have := readRange_range ht
  omega

theorem readSyncArm_range {b0 b1 b2 b3 b4 b5 edge : Byte} {p : SyncArm}
    (h : readSyncArm s [b0, b1, b2, b3, b4, b5, edge] = some p) : ¬(edge.toNat = 0 ∨ 2 < edge.toNat) := by
  obtain ⟨e, he, -⟩ := Option.map_eq_some_iff.mp h
  have := readEdge_range he
  omega

end

/-! ### Refusals -/

section
variable {α : Type} {op : RequestOp} {read : State → List Byte → Option α} {carry : α → State → State × Answer}
variable {s : State} {r : Request} {rest : List Request} {c : Instr}

/-- A request whose payload reads only when a condition fails is refused under that condition (R203). -/
theorem exec_badParam {bad : Prop} (he : exec c s = .next (dispatch op read carry s)) (h : Takes s r rest)
    (ha : op.whileDetached = true ∨ Attached s) (hop : r.op = op.code) (hl : op.lengthOk r.payload = true)
    (hu : uncached op.code = false) (hr : ∀ p, read (s.took rest) r.payload = some p → ¬bad) (hb : bad) :
    exec c s = .next (s.replied r rest .badParam []) := by
  have none : read (s.took rest) r.payload = none :=
    Option.eq_none_iff_forall_ne_some.mpr fun p hp => hr p hp hb
  rw [he, dispatch_badParam h hop ha hl none hu]

theorem uncached_code (hd : op ≠ .detach) (hr : op ≠ .restart) : uncached op.code = false := by
  cases op <;> simp_all [uncached, RequestOp.code]

theorem lengthOk_fixed {len : Nat} {payload : List Byte} (h : op.fixedLength = some len) (hl : payload.length ≠ len) :
    op.lengthOk payload = false := by
  simp only [RequestOp.lengthOk, h, hl, decide_false]

theorem lengthOk_stageAdd {payload : List Byte}
    (h : payload.length < 2 ∨ ∃ a c es, payload = a :: c :: es ∧ es.length ≠ 14 * c.toNat) :
    RequestOp.stageAdd.lengthOk payload = false := by
  rcases h with short | ⟨a, c, es, rfl, wrong⟩
  · match payload, short with
    | [], _ => rfl
    | [_], _ => rfl
    | _ :: _ :: _, short => simp at short
  · exact decide_eq_false (by simp only [List.length_cons]; omega)

/-- The dispatch checks, in their order (R175). -/
theorem exec_notAttached (hc : requestOf c = some op) (h : Takes s r rest) (hop : r.op = op.code)
    (hs : s.link.session = none) (hw : op.whileDetached = false) :
    exec c s = .next (s.replied r rest .notAttached []) := by
  obtain ⟨_, _, _, he⟩ := exec_requestOf hc
  rw [he, dispatch_notAttached h hop hw hs]

theorem exec_badLength (hc : requestOf c = some op) (h : Takes s r rest) (ha : Attached s) (hop : r.op = op.code)
    (hu : uncached op.code = false) (hl : op.lengthOk r.payload = false) :
    exec c s = .next (s.replied r rest .badLength []) := by
  obtain ⟨_, _, _, he⟩ := exec_requestOf hc
  rw [he, dispatch_badLength h hop (.inr ha) hl hu]

theorem exec_unknownOp (h : Takes s r rest) (hop : ∀ op : RequestOp, op.code ≠ r.op) :
    exec .unknownOpRequest s = .next (s.replied r rest .unknownOp []) := by
  have unknown : (!isRequestOp r.op) = true := by
    simp only [isRequestOp, Bool.not_eq_true', List.any_eq_false, decide_eq_true_eq]
    exact fun op _ => hop op
  have stored : uncached r.op = false := by
    simp [uncached, (hop .detach).symm, (hop .restart).symm]
  change Host.Outcome.next _ = _
  rw [takeRequest_fresh h unknown]
  exact congrArg _ (answerRequest_of stored _ _ _)

theorem exec_readAxisOnly
    (hc : c ∈ [Instr.axisRead, .homeCancel, .stageClear, .stageCopy, .commitCancel, .schedStart, .schedStop, .schedRead])
    (hop : requestOf c = some op) :
    (∃ carry, exec c s = .next (dispatch op readAxisOnly carry s)) ∧ uncached op.code = false ∧
      op.fixedLength = some 1 := by
  simp only [List.mem_cons, List.not_mem_nil, or_false] at hc
  rcases hc with rfl | rfl | rfl | rfl | rfl | rfl | rfl | rfl <;> cases hop <;> exact ⟨⟨_, rfl⟩, rfl, rfl⟩

theorem exec_readRouteOnly (hc : c ∈ [Instr.routeClear, .routeRead]) (hop : requestOf c = some op) :
    (∃ carry, exec c s = .next (dispatch op readRouteOnly carry s)) ∧ uncached op.code = false ∧
      op.fixedLength = some 1 := by
  simp only [List.mem_cons, List.not_mem_nil, or_false] at hc
  rcases hc with rfl | rfl <;> cases hop <;> exact ⟨⟨_, rfl⟩, rfl, rfl⟩

/-- The requests of one byte are refused when it is out of range (R203). -/
theorem exec_oneByte_badParam {b : Byte} (h : Takes s r rest) (ha : Attached s) (hp : r.payload = [b])
    (hc : requestOf c = some op) (hop : r.op = op.code)
    (hb : (c ∈ [Instr.axisRead, .homeCancel, .stageClear, .stageCopy, .commitCancel, .schedStart, .schedStop, .schedRead]
        ∧ 4 ≤ b.toNat) ∨ (c = .outputStop ∧ 8 ≤ b.toNat) ∨ (c = .triggerRead ∧ 6 ≤ b.toNat) ∨
      (c ∈ [Instr.routeClear, .routeRead] ∧ 16 ≤ b.toNat) ∨ (c = .captureNow ∧ (b = 0#8 ∨ 16 ≤ b.toNat)) ∨
      (c = .fetch ∧ (b = 0#8 ∨ 17 ≤ b.toNat)) ∨ (c = .linkStats ∧ 2 ≤ b.toNat) ∨ (c = .linkConfig ∧ 6 ≤ b.toNat)) :
    exec c s = .next (s.replied r rest .badParam []) := by
  have one (h1 : op.fixedLength = some 1) : op.lengthOk r.payload = true := by
    simp [RequestOp.lengthOk, h1, hp]
  have zero : b = 0#8 → b.toNat = 0 := fun hb => congrArg BitVec.toNat hb
  rcases hb with ⟨hm, hb⟩ | ⟨rfl, hb⟩ | ⟨rfl, hb⟩ | ⟨hm, hb⟩ | ⟨rfl, hb⟩ | ⟨rfl, hb⟩ | ⟨rfl, hb⟩ | ⟨rfl, hb⟩
  · obtain ⟨⟨carry, he⟩, hu, h1⟩ := exec_readAxisOnly (s := s) hm hc
    refine exec_badParam he h (.inr ha) hop (one h1) hu (fun p hr => ?_) hb
    rw [hp] at hr
    exact not_le.mpr (readAxis_range hr).2
  · cases hc
    refine exec_badParam rfl h (.inr ha) hop (one rfl) rfl (fun p hr => ?_) hb
    rw [hp] at hr
    exact not_le.mpr (readLine_range hr)
  · cases hc
    refine exec_badParam rfl h (.inr ha) hop (one rfl) rfl (fun p hr => ?_) hb
    rw [hp] at hr
    exact not_le.mpr (readTrigger_range hr)
  · obtain ⟨⟨carry, he⟩, hu, h1⟩ := exec_readRouteOnly (s := s) hm hc
    refine exec_badParam he h (.inr ha) hop (one h1) hu (fun p hr => ?_) hb
    rw [hp] at hr
    exact not_le.mpr (readRoute_range hr)
  · cases hc
    refine exec_badParam rfl h (.inr ha) hop (one rfl) rfl (fun p hr => ?_) hb
    rw [hp] at hr
    have := readAxisSet_range hr
    rintro (none | many)
    · have := zero none
      omega
    · omega
  · cases hc
    refine exec_badParam rfl h (.inr ha) hop (one rfl) rfl (fun p hr => ?_) hb
    rw [hp] at hr
    have := readRange_range hr
    rintro (none | many)
    · have := zero none
      omega
    · omega
  · cases hc
    refine exec_badParam rfl h (.inr ha) hop (one rfl) rfl (fun p hr => ?_) hb
    rw [hp] at hr
    exact not_le.mpr (readFlag_range hr)
  · cases hc
    refine exec_badParam rfl h (.inr ha) hop (one rfl) rfl (fun p hr => ?_) hb
    rw [hp] at hr
    exact not_le.mpr (readBaud_range hr)

end

end Sys2Proof.Machine

namespace Sys2Proof.Proofs
open Sys2Proof.Machine

/-- Settles O46: a reader that succeeds bounds every byte it checks, so a byte out of range leaves nothing to carry. -/
theorem wrongRequestsAreRefusedAndChangeNothing : Obligations.WrongRequestsAreRefusedAndChangeNothing := by
  refine ⟨fun s r rest h => ⟨fun c op hc hop hs hi hp ha hl hk hr => ?_,
    fun c op len hc hop ha hd hr hlen hne => ?_, fun ha hop hl => ?_, exec_unknownOp h⟩,
    fun s r rest b h ha hp c op hc hop => exec_oneByte_badParam h ha hp hc hop, fun s r rest h => ?_⟩
  · exact exec_notAttached hc h hop hs (by cases op <;> trivial)
  · exact exec_badLength hc h ha hop (uncached_code hd hr) (lengthOk_fixed hlen hne)
  · exact exec_badLength (op := .stageAdd) rfl h ha hop rfl (lengthOk_stageAdd hl)
  intro bad num outside misfit
  refine ⟨fun k0 k1 loss hop hp => ?_, fun ha => ⟨?_, ?_, ?_, ?_, ?_, ?_, ?_, ?_, ?_, ?_, ?_, ?_, ?_, ?_⟩⟩
  · exact exec_badParam (op := .attach) rfl h (.inl rfl) hop (by rw [hp]; rfl) rfl
      fun p hr => readAttach_range (hp ▸ hr)
  · intro n m i f a c0 c1 c2 c3 tol s0 s1 pol rep lim hop hp _
    exact exec_badParam (op := .axisConfig) rfl h (.inr ha) hop (by rw [hp]; rfl) rfl
      fun p hr => readAxisConfig_range (hp ▸ hr)
  · intro n t0 t1 t2 t3 v0 v1 v2 v3 hop hp
    exact exec_badParam (op := .axisSetPosition) rfl h (.inr ha) hop (by rw [hp]; rfl) rfl
      fun p hr => readSetPosition_range (hp ▸ hr)
  · intro n src k q p0 p1 p2 p3 hop hp
    exact exec_badParam (op := .home) rfl h (.inr ha) hop (by rw [hp]; rfl) rfl
      fun p hr => readHome_range (hp ▸ hr)
  · intro n c es hop hp hl
    have long : RequestOp.stageAdd.lengthOk r.payload = true := by
      rw [hp]
      exact decide_eq_true (by simp only [List.length_cons]; omega)
    exact exec_badParam (op := .stageAdd) rfl h (.inr ha) hop long rfl fun p hr => readStageAdd_range (hp ▸ hr) hl
  · intro n t0 t1 hop hp
    exact exec_badParam (op := .stageRemove) rfl h (.inr ha) hop (by rw [hp]; rfl) rfl
      fun p hr => readStageRemove_range (hp ▸ hr)
  · intro n h0 h1 hop hp
    exact exec_badParam (op := .schedConfig) rfl h (.inr ha) hop (by rw [hp]; rfl) rfl
      fun p hr => readSchedConfig_range (hp ▸ hr)
  · intro n m p0 p1 p2 p3 run hop hp
    exact exec_badParam (op := .commit) rfl h (.inr ha) hop (by rw [hp]; rfl) rfl
      fun p hr => readCommit_range (hp ▸ hr)
  · intro n list t0 t1 hop hp
    exact exec_badParam (op := .entryRead) rfl h (.inr ha) hop (by rw [hp]; rfl) rfl
      fun p hr => readEntryRead_range (hp ▸ hr)
  · intro l idle safeLevel policy report hop hp
    exact exec_badParam (op := .outputConfig) rfl h (.inr ha) hop (by rw [hp]; rfl) rfl
      fun p hr => readOutputConfig_range (hp ▸ hr)
  · intro l kind w0 w1 c0 c1 p0 p1 hop hp
    exact exec_badParam (op := .outputAction) rfl h (.inr ha) hop (by rw [hp]; rfl) rfl
      fun p hr => readOutputAction_range (hp ▸ hr)
  · intro k selection f h0 h1 hop hp
    exact exec_badParam (op := .triggerConfig) rfl h (.inr ha) hop (by rw [hp]; rfl) rfl
      fun p hr => readTriggerConfig_range (hp ▸ hr)
  · intro i enable s0 s1 s2 n0 n1 a0 a1 a2 w0 w1 c0 c1 p0 p1 hop hp
    exact exec_badParam (op := .routeSet) rfl h (.inr ha) hop (by rw [hp]; rfl) rfl
      fun p hr => readRouteSet_range (hp ▸ hr)
  · intro mode w t0 t1 hop hp
    exact exec_badParam (op := .deliveryConfig) rfl h (.inr ha) hop (by rw [hp]; rfl) rfl
      fun p hr => readDeliveryConfig_range (hp ▸ hr)
  · intro b0 b1 b2 b3 b4 b5 edge hop hp
    exact exec_badParam (op := .syncArm) rfl h (.inr ha) hop (by rw [hp]; rfl) rfl
      fun p hr => readSyncArm_range (hp ▸ hr)

end Sys2Proof.Proofs
end

section
/-! SUPPORT and the settling of O45. A reading request leaves the state as it was; its reply is a payload of fields,
each given by its own value; the nearest armed entry is found by a fold that keeps the nearest so far. -/

namespace Sys2Proof.Machine

/-! ### Requests that read -/

/-- A request whose effect leaves the state as it is changes the link's own books alone. -/
theorem exec_reads {α : Type} {c : Instr} {op : RequestOp} {read : State → List Byte → Option α}
    {carry : α → State → State × Answer} {s : State} {r : Request} {rest : List Request} {p : α} {status : Status}
    {payload : List Byte} (he : exec c s = .next (dispatch op read carry s)) (h : Takes s r rest)
    (ha : op.whileDetached = true ∨ Attached s) (hop : r.op = op.code) (hu : uncached op.code = false)
    (hl : op.lengthOk r.payload = true) (hr : read (s.took rest) r.payload = some p)
    (hc : carry p (s.took rest) = (s.took rest, .of status payload)) :
    exec c s = .next (s.replied r rest status payload) := by
  rw [he, dispatch_carried h hop ha hl hr hc hu]
  rfl

section
variable {s : State} {n : AxisId} {staging : Bool} {tag : Nat}

theorem carryEntryRead_absent (h : ∀ e ∈ if staging then (s.sched n).staging else (s.sched n).active, e.tag ≠ tag) :
    carryEntryRead (n, staging, tag) s = (s, .of .noEntry []) := by
  have absent : (if staging then (s.sched n).staging else (s.sched n).active).find? (fun e => e.tag = tag) = none :=
    List.find?_eq_none.mpr fun e he => by simpa using h e he
  simp only [carryEntryRead, absent]
  rfl

theorem carryEntryRead_found {front back : List Entry} {e : Entry}
    (h : (if staging then (s.sched n).staging else (s.sched n).active) = front ++ e :: back) (he : e.tag = tag)
    (hf : ∀ x ∈ front, x.tag ≠ e.tag) :
    carryEntryRead (n, staging, tag) s = (s, .of .ok (entryPayload e)) := by
  have found : (front ++ e :: back).find? (fun e => e.tag = tag) = some e :=
    find?_append_cons (fun x hx => decide_eq_false (he ▸ hf x hx)) (decide_eq_true he)
  simp only [carryEntryRead, h, found]

theorem readEntryRead_bytes {t0 t1 : Byte} (h : t0.toNat * 256 + t1.toNat ≠ 0) :
    readEntryRead s [byteOf n.val, flagByte staging, t0, t1] = some (n, staging, t0.toNat * 256 + t1.toNat) := by
  have high := t0.isLt
  have low := t1.isLt
  simp only [readEntryRead, readAxis_byteOf, readFlag_flagByte, numBE_pair,
    readRange_of (lo := 1) (hi := 65535) (Nat.one_le_iff_ne_zero.mpr h) (by omega)]
  rfl

end

/-! ### Fields of replies -/

theorem bytesBE_four (v : Nat) : bytesBE 4 v =
    [BitVec.ofNat 8 (v / 16777216), BitVec.ofNat 8 (v / 65536), BitVec.ofNat 8 (v / 256), BitVec.ofNat 8 v] := by
  simp [bytesBE, Nat.div_div_eq_div_mul]

theorem toNat_ofInt_natCast (a : Nat) : (BitVec.ofInt 32 (a : Int)).toNat = a % 2 ^ 32 := by
  rw [BitVec.ofInt_natCast, BitVec.toNat_ofNat]

@[simp] theorem length_params (act : OutAction) : act.params.length = 6 := by
  rcases act with (_ | _) | _ | _ | _ <;> rfl

@[simp] theorem length_actionBytes (e : Entry) : e.actionBytes.length = 7 := by
  unfold Entry.actionBytes
  split
  · rfl
  · simp

@[simp] theorem length_commitPayload (c : Option PendingCommit) : (commitPayload c).length = 6 := by
  rcases c with _ | _ | _ <;> rfl

@[simp] theorem length_runningPayload (r : Option Running) : (runningPayload r).length = 10 := by
  cases r <;> simp [runningPayload]

@[simp] theorem length_waitingPayload (a : Option OutAction) : (waitingPayload a).length = 7 := by
  cases a <;> simp [waitingPayload]

@[simp] theorem length_sourcePayload (x : Option RouteSource) : (sourcePayload x).length = 3 := by
  rcases x with _ | _ | _ | _ | _ | _ <;> rfl

@[simp] theorem length_routeActionPayload (x : Option RouteAction) : (routeActionPayload x).length = 9 := by
  rcases x with _ | _ | _ | _ | _ | _ <;> simp [routeActionPayload]

@[simp] theorem length_linePayload (safe : Bool) (x : Line) : (linePayload safe x).length = 27 := by
  simp [linePayload]

theorem length_timePayload (t : Timebase) : (timePayload t).length = 15 := by
  unfold timePayload
  split <;> simp

/-! ### The nearest armed entry (R73) -/

section
variable {key : Int → Option Nat} {es : List Entry} {dist tag : Nat}

/-- Entries without a distance leave the nearest so far. -/
theorem foldl_nearer_of_none (h : ∀ e ∈ es, e.armed = true → key e.position = none) (best : Option (Nat × Nat)) :
    es.foldl (nearer key) best = best := by
  induction es with
  | nil => rfl
  | cons e es ih =>
    have skipped : nearer key best e = best := by
      unfold nearer
      split
      · rw [h e List.mem_cons_self ‹_›]
      · rfl
    rw [List.foldl_cons, skipped, ih fun x hx => h x (List.mem_cons_of_mem e hx)]

/-- The nearest so far, when there is one, lies farther than a distance. -/
def Farther (dist : Nat) (best : Option (Nat × Nat)) : Prop := ∀ away tag, best = some (away, tag) → dist < away

theorem foldl_nearer_farther
    (h : ∀ e ∈ es, e.armed = true → ∀ away, key e.position = some away → dist < away) {best : Option (Nat × Nat)}
    (hb : Farther dist best) : Farther dist (es.foldl (nearer key) best) := by
  induction es generalizing best with
  | nil => exact hb
  | cons e es ih =>
    refine ih (fun x hx => h x (List.mem_cons_of_mem e hx)) ?_
    have first := h e List.mem_cons_self
    unfold nearer
    split
    · split
      · split
        · rintro _ _ ⟨⟩
          exact first ‹_› _ ‹_›
        · exact hb
      · rintro _ _ ⟨⟩
        exact first ‹_› _ ‹_›
      · exact hb
    · exact hb

theorem nearer_of_farther {best : Option (Nat × Nat)} {e : Entry} (hb : Farther dist best) (ha : e.armed = true)
    (hk : key e.position = some dist) : nearer key best e = some (dist, e.tag) := by
  simp only [nearer, ha, hk, if_true]
  match best, hb with
  | none, _ => rfl
  | some (away, tag), hb => exact if_pos (hb away tag rfl)

/-- Entries that lie no nearer leave the nearest so far. -/
theorem foldl_nearer_of_le (h : ∀ e ∈ es, e.armed = true → ∀ away, key e.position = some away → dist ≤ away) :
    es.foldl (nearer key) (some (dist, tag)) = some (dist, tag) := by
  induction es with
  | nil => rfl
  | cons e es ih =>
    have kept : nearer key (some (dist, tag)) e = some (dist, tag) := by
      unfold nearer
      split
      · cases hk : key e.position with
        | none => rfl
        | some away => exact if_neg (Nat.not_lt.mpr (h e List.mem_cons_self ‹_› away hk))
      · rfl
    rw [List.foldl_cons, kept, ih fun x hx => h x (List.mem_cons_of_mem e hx)]

theorem nearestTag_of_none (h : ∀ e ∈ es, e.armed = true → key e.position = none) : nearestTag key es = 0 := by
  rw [nearestTag, foldl_nearer_of_none h]

theorem nearestTag_of_nearest {front back : List Entry} {e : Entry} (ha : e.armed = true)
    (hk : key e.position = some dist)
    (hf : ∀ y ∈ front, y.armed = true → ∀ away, key y.position = some away → dist < away)
    (hb : ∀ y ∈ back, y.armed = true → ∀ away, key y.position = some away → dist ≤ away) :
    nearestTag key (front ++ e :: back) = e.tag := by
  have before : Farther dist (front.foldl (nearer key) none) := foldl_nearer_farther hf fun _ _ h => nomatch h
  rw [nearestTag, List.foldl_append, List.foldl_cons, nearer_of_farther before ha hk, foldl_nearer_of_le hb]

end

/-! ### The bytes of the replies -/

theorem axisPayload_fields {n : AxisId} {x : Axis} {state sub dir lost : Byte} {turn value : Nat}
    (hs : x.ref.code = state) (hh : x.ref.subCode = sub) (ht : x.position.turn.toNat = turn)
    (hv : (BitVec.ofInt 32 x.position.value).toNat = value) (hd : x.lastDir.code = dir)
    (hl : x.ref.lostCode = lost) :
    axisPayload n x = [state, sub, byteOf n.val] ++ bytesBE 4 turn ++ bytesBE 4 value ++ [dir] ++
      bytesBE 2 x.errors ++ [lost, byteOf n.val] ++ bytesBE 4 x.lastIndexTurn.toNat ++
      bytesBE 4 x.lastIndexValue.toNat ++ bytesBE 4 (BitVec.ofInt 32 x.lastSlip).toNat := by
  subst hs hh ht hv hd hl
  simp only [axisPayload, PosWord.encode, Axis.posWord, intBytes, wordBytes, List.cons_append, List.nil_append,
    List.append_assoc]

theorem schedPayload_fields {x : Axis} {c : Schedule} {free : Nat} {state : Byte} {commit : List Byte}
    (hs : c.state.code = state) (hc : commitPayload c.commit = commit) :
    schedPayload x c free = [state] ++ bytesBE 2 c.active.length ++ bytesBE 2 c.staging.length ++ commit ++
      bytesBE 2 c.h ++ bytesBE 2 (nearestTag x.above c.active) ++ bytesBE 2 (nearestTag x.below c.active) ++
      bytesBE 4 c.total.toNat ++ bytesBE 2 free := by
  subst hs hc
  rfl

theorem linePayload_fields {safe : Bool} {x : Line} {policy : Byte} {running waiting : List Byte}
    (hp : x.policy.code = policy) (hr : runningPayload x.running = running)
    (hw : waitingPayload x.waiting = waiting) :
    linePayload safe x = [levelCode (x.pin safe), levelCode x.steady, levelCode x.idle, levelCode x.safeLevel,
      policy, flagByte x.report] ++ running ++ waiting ++ bytesBE 2 x.drops ++ bytesBE 2 x.preempts := by
  subst hp hr hw
  rfl

theorem triggerPayload_fields {t : Trigger} {level selection : Byte} {held : Bool} (hl : levelCode t.level = level)
    (hs : t.selection.code = selection) (hh : t.holdoffEnd.isSome = held) :
    triggerPayload t = [level, selection, byteOf t.filter] ++ bytesBE 2 t.holdoff ++ [flagByte held] ++
      bytesBE 2 t.accepted ++ bytesBE 2 t.filtered ++ bytesBE 2 t.heldOff := by
  subst hl hs hh
  rfl

theorem routePayload_fields {x : Route} {source action : List Byte} (hs : sourcePayload x.source = source)
    (ha : routeActionPayload x.action = action) :
    routePayload x = [flagByte x.enable] ++ source ++ bytesBE 2 x.divider ++ action ++ [byteOf x.counter] ++
      bytesBE 2 x.matched ++ bytesBE 2 x.acted ++ bytesBE 2 x.shadowed := by
  subst hs ha
  rfl

theorem queuePayload_fields {q : RecordQueue} {oldest : Nat} (ho : q.oldest.toNat = oldest) :
    queuePayload q = bytesBE 2 q.records.length ++ bytesBE 4 oldest ++ bytesBE 4 q.next.toNat ++
      bytesBE 4 q.pendingLoss ++ bytesBE 4 q.totalLost ++ bytesBE 4 q.totalAdmitted.toNat ++
      [flagByte q.enables.axis, flagByte q.enables.schedule, flagByte q.enables.output,
        flagByte q.enables.timeSync] := by
  subst ho
  rfl

end Sys2Proof.Machine

namespace Sys2Proof.Proofs
open Sys2Proof.Machine

/-- Settles O45: each reading request carries the state unchanged; its reply's fields are read off one by one; and the
fold of the nearest entry passes the farther ones before it and the no nearer ones behind it. -/
theorem readingRequestsReplyWithTheValuesHeld : Obligations.ReadingRequestsReplyWithTheValuesHeld := by
  refine ⟨fun s r rest h => ⟨fun hop hp => ?_, fun hop hl => ?_, fun n ha hop hp => ?_, fun n ha hop hp => ?_,
      fun n staging t0 t1 ha hop hp ht => ?_, fun ha hop hp => ?_, fun k ha hop hp => ?_, fun i ha hop hp => ?_,
      fun ha hop hp => ?_⟩,
    fun s n e k i => ?_,
    ⟨fun v => ⟨rfl, bytesBE_four v, rfl, rfl, rfl⟩, fun n x => ?_, fun x c free => ?_, fun s => ?_, fun t => ?_,
      fun x => ?_, fun q => ?_⟩,
    fun x es up => ?_⟩
  · exact exec_reads (op := .identify) rfl h (.inl rfl) hop rfl (by rw [hp]; rfl) rfl rfl
  · exact exec_reads (op := .ping) rfl h (.inl rfl) hop rfl (decide_eq_true hl) rfl rfl
  · exact exec_reads (op := .axisRead) rfl h (.inr ha) hop rfl (by rw [hp]; rfl)
      (by rw [hp]; exact readAxis_byteOf n) rfl
  · exact exec_reads (op := .schedRead) rfl h (.inr ha) hop rfl (by rw [hp]; rfl)
      (by rw [hp]; exact readAxis_byteOf n) rfl
  · have reads : readEntryRead (s.took rest) r.payload = some (n, staging, t0.toNat * 256 + t1.toNat) := by
      rw [hp]
      exact readEntryRead_bytes ht
    exact ⟨fun absent => exec_reads (op := .entryRead) rfl h (.inr ha) hop rfl (by rw [hp]; rfl) reads
        (carryEntryRead_absent (s := s.took rest) absent),
      fun front e back found tag others => exec_reads (op := .entryRead) rfl h (.inr ha) hop rfl (by rw [hp]; rfl)
        reads (carryEntryRead_found (s := s.took rest) found tag others)⟩
  · exact exec_reads (op := .outputRead) rfl h (.inr ha) hop rfl (by rw [hp]; rfl) rfl rfl
  · exact exec_reads (op := .triggerRead) rfl h (.inr ha) hop rfl (by rw [hp]; rfl)
      (by rw [hp]; exact readTrigger_byteOf k) rfl
  · exact exec_reads (op := .routeRead) rfl h (.inr ha) hop rfl (by rw [hp]; rfl)
      (by rw [hp]; exact readRoute_byteOf i) rfl
  · exact exec_reads (op := .queueRead) rfl h (.inr ha) hop rfl (by rw [hp]; rfl) rfl rfl
  · refine ⟨by simp [axisPayload, PosWord.encode], by simp [schedPayload], by simp [entryPayload, Entry.encode],
      by simp [outputPayload, Config.allLines], by simp [triggerPayload], by simp [routePayload],
      by simp [queuePayload], by simp [deliveryPayload], length_timePayload _, by simp [statsPayload],
      by simp [attachPayload], rfl⟩
  · refine axisPayload_fields ?_ ?_ ?_ ?_ ?_ ?_
    · cases x.ref <;> rfl
    · rcases x.ref with _ | (_ | _) | _ | _ <;> rfl
    · cases x.position <;> rfl
    · rcases x.position with v | ⟨turn, a⟩
      · rfl
      · exact toNat_ofInt_natCast a
    · cases x.lastDir <;> rfl
    · rcases x.ref with _ | _ | _ | (_ | _ | _) <;> rfl
  · refine schedPayload_fields ?_ ?_
    · cases c.state <;> rfl
    · rcases c.commit with _ | _ | _ <;> rfl
  · refine congrArg (flagByte s.safe :: ·) (congrArg List.flatten (List.map_congr_left fun l _ => ?_))
    refine linePayload_fields ?_ ?_ ?_
    · cases (s.line l).policy <;> rfl
    · rcases (s.line l).running with _ | ⟨_ | _, _ | _ | _, _, _⟩ <;> rfl
    · rcases (s.line l).waiting with _ | (_ | _) | _ | _ | _ <;> rfl
  · refine triggerPayload_fields ?_ ?_ ?_
    · cases t.level <;> rfl
    · cases t.selection <;> rfl
    · cases t.holdoffEnd <;> rfl
  · refine routePayload_fields ?_ ?_
    · rcases x.source with _ | _ | _ | _ | _ | _ <;> rfl
    · rcases x.action with _ | _ | _ | _ | _ | ⟨l, (_ | _) | _ | _ | _⟩ <;> rfl
  · refine queuePayload_fields ?_
    unfold RecordQueue.oldest
    cases q.records <;> rfl
  · intro key named
    have keys : (if up then x.above else x.below) = key := by
      funext q
      cases up <;> cases hp : x.position <;> simp [Axis.above, Axis.below, key, hp]
    have value : named = nearestTag key es := congrArg (nearestTag · es) keys
    rw [value]
    refine ⟨nearestTag_of_none, ?_⟩
    rintro front e back dist rfl armed at_ before behind
    exact nearestTag_of_nearest armed at_ before behind

end Sys2Proof.Proofs
end
